-- ==== Sys2Proof/Word.lean ====
section
/-! DEFINITION. The words of the machine: a Byte is an 8-bit entity, a Word a 16-bit entity (R6, R12). -/

namespace Sys2Proof

/-- "A 16-bit entity" (R6): registers, the program counter, XGATE addresses, instruction words. -/
abbrev Word := BitVec 16

/-- "An 8-bit entity" (R6). -/
abbrev Byte := BitVec 8

/-- The two widths of a data access (R80): r and w are 8-bit, R and W are 16-bit accesses. -/
inductive Width
  | byte
  | word
deriving DecidableEq, Repr

end Sys2Proof
end

