-- ==== Sys2Proof/Syntax.lean ====
section
/-! DEFINITION. The instruction set as syntax: one constructor for each of the 87 encodings of R136, in the order of
the opcode table. Every operand has exactly the type of its field (R133, R134), so a term cannot hold a value that
its encoding has no room for. The ten alias forms of R145 are terms of the core instruction they expand to. -/

namespace Sys2Proof

/-- The eight general registers (R20). R0 is the zero register (R21). -/
inductive Reg
  | r0 | r1 | r2 | r3 | r4 | r5 | r6 | r7
deriving DecidableEq, Repr

/-- The 87 instructions of R136. -/
inductive Instr
  /-- BRK (R334) -/
  | brk
  /-- NOP (R332) -/
  | nop
  /-- RTS (R336) -/
  | rts
  /-- SIF (R320) -/
  | sif
  /-- CSEM #IMM3 (R326) -/
  | csemImm (k : BitVec 3)
  /-- CSEM RS (R327) -/
  | csemReg (rs : Reg)
  /-- SSEM #IMM3 (R324) -/
  | ssemImm (k : BitVec 3)
  /-- SSEM RS (R325) -/
  | ssemReg (rs : Reg)
  /-- SEX RD (R244) -/
  | sex (rd : Reg)
  /-- PAR RD (R245) -/
  | par (rd : Reg)
  /-- JAL RD (R272) -/
  | jal (rd : Reg)
  /-- SIF RS (R321) -/
  | sifReg (rs : Reg)
  /-- TFR RD,CCR (R250) -/
  | tfrFromCcr (rd : Reg)
  /-- TFR CCR,RS (R251) -/
  | tfrToCcr (rs : Reg)
  /-- BFFO RD,RS (R300) -/
  | bffo (rd rs : Reg)
  /-- ASR RD,RS (R285) -/
  | asrReg (rd rs : Reg)
  /-- CSL RD,RS (R287) -/
  | cslReg (rd rs : Reg)
  /-- CSR RD,RS (R289) -/
  | csrReg (rd rs : Reg)
  /-- LSL RD,RS (R291) -/
  | lslReg (rd rs : Reg)
  /-- LSR RD,RS (R293) -/
  | lsrReg (rd rs : Reg)
  /-- ROL RD,RS (R296) -/
  | rolReg (rd rs : Reg)
  /-- ROR RD,RS (R298) -/
  | rorReg (rd rs : Reg)
  /-- ASR RD,#IMM4 (R284) -/
  | asrImm (rd : Reg) (n : BitVec 4)
  /-- CSL RD,#IMM4 (R286) -/
  | cslImm (rd : Reg) (n : BitVec 4)
  /-- CSR RD,#IMM4 (R288) -/
  | csrImm (rd : Reg) (n : BitVec 4)
  /-- LSL RD,#IMM4 (R290) -/
  | lslImm (rd : Reg) (n : BitVec 4)
  /-- LSR RD,#IMM4 (R292) -/
  | lsrImm (rd : Reg) (n : BitVec 4)
  /-- ROL RD,#IMM4 (R295) -/
  | rolImm (rd : Reg) (n : BitVec 4)
  /-- ROR RD,#IMM4 (R297) -/
  | rorImm (rd : Reg) (n : BitVec 4)
  /-- AND RD,RS1,RS2 (R222) -/
  | and (rd rs1 rs2 : Reg)
  /-- OR RD,RS1,RS2 (R223) -/
  | or (rd rs1 rs2 : Reg)
  /-- XNOR RD,RS1,RS2 (R224) -/
  | xnor (rd rs1 rs2 : Reg)
  /-- SUB RD,RS1,RS2 (R197) -/
  | sub (rd rs1 rs2 : Reg)
  /-- SBC RD,RS1,RS2 (R198) -/
  | sbc (rd rs1 rs2 : Reg)
  /-- ADD RD,RS1,RS2 (R195) -/
  | add (rd rs1 rs2 : Reg)
  /-- ADC RD,RS1,RS2 (R196) -/
  | adc (rd rs1 rs2 : Reg)
  /-- BCC REL9 (R259) -/
  | bcc (rel : BitVec 9)
  /-- BCS REL9 (R260) -/
  | bcs (rel : BitVec 9)
  /-- BNE REL9 (R261) -/
  | bne (rel : BitVec 9)
  /-- BEQ REL9 (R262) -/
  | beq (rel : BitVec 9)
  /-- BPL REL9 (R263) -/
  | bpl (rel : BitVec 9)
  /-- BMI REL9 (R264) -/
  | bmi (rel : BitVec 9)
  /-- BVC REL9 (R265) -/
  | bvc (rel : BitVec 9)
  /-- BVS REL9 (R266) -/
  | bvs (rel : BitVec 9)
  /-- BHI REL9 (R267) -/
  | bhi (rel : BitVec 9)
  /-- BLS REL9 (R268) -/
  | bls (rel : BitVec 9)
  /-- BGE REL9 (R269) -/
  | bge (rel : BitVec 9)
  /-- BLT REL9 (R270) -/
  | blt (rel : BitVec 9)
  /-- BGT REL9 (R271) -/
  | bgt (rel : BitVec 9)
  /-- BLE REL9 (R274) -/
  | ble (rel : BitVec 9)
  /-- BRA REL10 (R273) -/
  | bra (rel : BitVec 10)
  /-- LDB RD,(RB,#OFFS5) (R166) -/
  | ldbOff (rd rb : Reg) (off : BitVec 5)
  /-- LDW RD,(RB,#OFFS5) (R170) -/
  | ldwOff (rd rb : Reg) (off : BitVec 5)
  /-- STB RS,(RB,#OFFS5) (R182) -/
  | stbOff (rs rb : Reg) (off : BitVec 5)
  /-- STW RS,(RB,#OFFS5) (R186) -/
  | stwOff (rs rb : Reg) (off : BitVec 5)
  /-- LDB RD,(RB,RI) (R167) -/
  | ldbIdx (rd rb ri : Reg)
  /-- LDW RD,(RB,RI) (R171) -/
  | ldwIdx (rd rb ri : Reg)
  /-- STB RS,(RB,RI) (R183) -/
  | stbIdx (rs rb ri : Reg)
  /-- STW RS,(RB,RI) (R187) -/
  | stwIdx (rs rb ri : Reg)
  /-- LDB RD,(RB,RI+) (R168) -/
  | ldbInc (rd rb ri : Reg)
  /-- LDW RD,(RB,RI+) (R172) -/
  | ldwInc (rd rb ri : Reg)
  /-- STB RS,(RB,RI+) (R184) -/
  | stbInc (rs rb ri : Reg)
  /-- STW RS,(RB,RI+) (R188) -/
  | stwInc (rs rb ri : Reg)
  /-- LDB RD,(RB,-RI) (R169) -/
  | ldbDec (rd rb ri : Reg)
  /-- LDW RD,(RB,-RI) (R173) -/
  | ldwDec (rd rb ri : Reg)
  /-- STB RS,(RB,-RI) (R185) -/
  | stbDec (rs rb ri : Reg)
  /-- STW RS,(RB,-RI) (R189) -/
  | stwDec (rs rb ri : Reg)
  /-- BFEXT RD,RS1,RS2 (R314) -/
  | bfext (rd rs1 rs2 : Reg)
  /-- BFINS RD,RS1,RS2 (R315) -/
  | bfins (rd rs1 rs2 : Reg)
  /-- BFINSI RD,RS1,RS2 (R316) -/
  | bfinsi (rd rs1 rs2 : Reg)
  /-- BFINSX RD,RS1,RS2 (R317) -/
  | bfinsx (rd rs1 rs2 : Reg)
  /-- ANDL RD,#IMM8 (R230) -/
  | andl (rd : Reg) (k : Byte)
  /-- ANDH RD,#IMM8 (R231) -/
  | andh (rd : Reg) (k : Byte)
  /-- BITL RD,#IMM8 (R232) -/
  | bitl (rd : Reg) (k : Byte)
  /-- BITH RD,#IMM8 (R233) -/
  | bith (rd : Reg) (k : Byte)
  /-- ORL RD,#IMM8 (R234) -/
  | orl (rd : Reg) (k : Byte)
  /-- ORH RD,#IMM8 (R235) -/
  | orh (rd : Reg) (k : Byte)
  /-- XNORL RD,#IMM8 (R236) -/
  | xnorl (rd : Reg) (k : Byte)
  /-- XNORH RD,#IMM8 (R237) -/
  | xnorh (rd : Reg) (k : Byte)
  /-- SUBL RD,#IMM8 (R205) -/
  | subl (rd : Reg) (k : Byte)
  /-- SUBH RD,#IMM8 (R206) -/
  | subh (rd : Reg) (k : Byte)
  /-- CMPL RS,#IMM8 (R208) -/
  | cmpl (rs : Reg) (k : Byte)
  /-- CPCH RS,#IMM8 (R209) -/
  | cpch (rs : Reg) (k : Byte)
  /-- ADDL RD,#IMM8 (R203) -/
  | addl (rd : Reg) (k : Byte)
  /-- ADDH RD,#IMM8 (R204) -/
  | addh (rd : Reg) (k : Byte)
  /-- LDL RD,#IMM8 (R180) -/
  | ldl (rd : Reg) (k : Byte)
  /-- LDH RD,#IMM8 (R181) -/
  | ldh (rd : Reg) (k : Byte)
deriving DecidableEq, Repr

end Sys2Proof
end

