-- ==== Sys2Proof/WellFormed.lean ====
section
/-! DEFINITION. When an instruction is well formed. "every value of every field is legal" (R142) and each operand's
range is its type, so ONE check is left: the pre-decrement modes with the offset register equal to the base register,
other than R0, to which the spec gives no meaning (R178, U5). Decoding and encoding treat those words like any other
(they are legal encodings); their meaning refuses them by name. -/

namespace Sys2Proof

/-- R178: "-RI with RI = RB other than R0" has no meaning. -/
def Reg.mayPreDecrement (rb ri : Reg) : Bool := ri == .r0 || ri != rb

/-- Every instruction but the pre-decrement loads and stores is well formed whatever its operands (R142). -/
def Instr.wellFormed : Instr → Bool
  | .ldbDec _ rb ri | .ldwDec _ rb ri | .stbDec _ rb ri | .stwDec _ rb ri => rb.mayPreDecrement ri
  | .brk | .nop | .rts | .sif | .csemImm _ | .csemReg _ | .ssemImm _ | .ssemReg _ | .sex _ | .par _ | .jal _ | .sifReg _
  | .tfrFromCcr _ | .tfrToCcr _ | .bffo _ _ | .asrReg _ _ | .cslReg _ _ | .csrReg _ _ | .lslReg _ _ | .lsrReg _ _
  | .rolReg _ _ | .rorReg _ _ | .asrImm _ _ | .cslImm _ _ | .csrImm _ _ | .lslImm _ _ | .lsrImm _ _ | .rolImm _ _
  | .rorImm _ _ | .and _ _ _ | .or _ _ _ | .xnor _ _ _ | .sub _ _ _ | .sbc _ _ _ | .add _ _ _ | .adc _ _ _ | .bcc _
  | .bcs _ | .bne _ | .beq _ | .bpl _ | .bmi _ | .bvc _ | .bvs _ | .bhi _ | .bls _ | .bge _ | .blt _ | .bgt _ | .ble _
  | .bra _ | .ldbOff _ _ _ | .ldwOff _ _ _ | .stbOff _ _ _ | .stwOff _ _ _ | .ldbIdx _ _ _ | .ldwIdx _ _ _
  | .stbIdx _ _ _ | .stwIdx _ _ _ | .ldbInc _ _ _ | .ldwInc _ _ _ | .stbInc _ _ _ | .stwInc _ _ _
  | .bfext _ _ _ | .bfins _ _ _ | .bfinsi _ _ _ | .bfinsx _ _ _ | .andl _ _ | .andh _ _ | .bitl _ _ | .bith _ _
  | .orl _ _ | .orh _ _ | .xnorl _ _ | .xnorh _ _ | .subl _ _ | .subh _ _ | .cmpl _ _ | .cpch _ _ | .addl _ _
  | .addh _ _ | .ldl _ _ | .ldh _ _ => true

end Sys2Proof
end

