-- ==== Sys2Proof/Decode.lean ====
section
/-! DEFINITION. From words to instructions and back. `decodeWord` follows the decision procedure of R140, `encode` the
values of R136 with the fields at their places. Bytes are big-endian: bits 15:8 at the lower address (R84, R120). -/

namespace Sys2Proof

/-! ## Fields -/

/-- "encode the register number directly" (R121). -/
def Reg.ofBits (b : BitVec 3) : Reg :=
  match b.toNat with
  | 0 => .r0 | 1 => .r1 | 2 => .r2 | 3 => .r3 | 4 => .r4 | 5 => .r5 | 6 => .r6 | _ => .r7

/-- The three bits that name a register (R121). -/
def Reg.bits : Reg → BitVec 3
  | .r0 => 0 | .r1 => 1 | .r2 => 2 | .r3 => 3 | .r4 => 4 | .r5 => 5 | .r6 => 6 | .r7 => 7

/-- Bits 15:8 of a word (R7). -/
def highByte (w : Word) : Byte := w.extractLsb' 8 8

/-- Bits 7:0 of a word (R7). -/
def lowByte (w : Word) : Byte := w.extractLsb' 0 8

/-- The word whose bits 15:8 are `h` and bits 7:0 are `l` (R7 "a:b"). -/
def joinBytes (h l : Byte) : Word := h ++ l

/-- The register named in bits 10:8: RD, or the RS of the stores and one-register forms (R134). -/
def fieldD (w : Word) : Reg := Reg.ofBits (w.extractLsb' 8 3)

/-- The register named in bits 7:5: RS1, RS or RB (R134). -/
def fieldS (w : Word) : Reg := Reg.ofBits (w.extractLsb' 5 3)

/-- The register named in bits 4:2: RS2 or RI (R134). -/
def fieldT (w : Word) : Reg := Reg.ofBits (w.extractLsb' 2 3)

/-- IMM3, bits 10:8 (R133). -/
def fieldImm3 (w : Word) : BitVec 3 := w.extractLsb' 8 3

/-- IMM4, bits 7:4 (R133). -/
def fieldImm4 (w : Word) : BitVec 4 := w.extractLsb' 4 4

/-- OFFS5, bits 4:0 (R133). -/
def fieldOffs5 (w : Word) : BitVec 5 := w.extractLsb' 0 5

/-- IMM8, bits 7:0 (R133). -/
def fieldImm8 (w : Word) : Byte := lowByte w

/-- REL9, bits 8:0 (R133). -/
def fieldRel9 (w : Word) : BitVec 9 := w.extractLsb' 0 9

/-- REL10, bits 9:0 (R133). -/
def fieldRel10 (w : Word) : BitVec 10 := w.extractLsb' 0 10

/-! ## Decoding -/

/-- Why a list of bytes is no instruction. -/
inductive DecodeError
  /-- One of the 3116 words of R141: "Illegal Opcodes". -/
  | illegalOpcode (w : Word)
  /-- Fewer than the two bytes of an instruction word (R120). -/
  | truncated
deriving DecidableEq, Repr

/-- Major opcode `00000`: INH, IMM3 and MON (R122, R123, R140). -/
def decodeSystem (w : Word) : Except DecodeError Instr :=
  match (w.extractLsb' 0 8).toNat with
  | 0x00 =>
    match (w.extractLsb' 8 3).toNat with
    | 0 => .ok .brk
    | 1 => .ok .nop
    | 2 => .ok .rts
    | 3 => .ok .sif
    | _ => .error (.illegalOpcode w)
  | 0xF0 => .ok (.csemImm (fieldImm3 w))
  | 0xF1 => .ok (.csemReg (fieldD w))
  | 0xF2 => .ok (.ssemImm (fieldImm3 w))
  | 0xF3 => .ok (.ssemReg (fieldD w))
  | 0xF4 => .ok (.sex (fieldD w))
  | 0xF5 => .ok (.par (fieldD w))
  | 0xF6 => .ok (.jal (fieldD w))
  | 0xF7 => .ok (.sifReg (fieldD w))
  | 0xF8 => .ok (.tfrFromCcr (fieldD w))
  | 0xF9 => .ok (.tfrToCcr (fieldD w))
  | _ => .error (.illegalOpcode w)

/-- Major opcode `00001`: IMM4 by bits 3:0, else DYA by bits 4:0 (R124, R125, R140). -/
def decodeShift (w : Word) : Except DecodeError Instr :=
  match (w.extractLsb' 0 4).toNat with
  | 9 => .ok (.asrImm (fieldD w) (fieldImm4 w))
  | 10 => .ok (.cslImm (fieldD w) (fieldImm4 w))
  | 11 => .ok (.csrImm (fieldD w) (fieldImm4 w))
  | 12 => .ok (.lslImm (fieldD w) (fieldImm4 w))
  | 13 => .ok (.lsrImm (fieldD w) (fieldImm4 w))
  | 14 => .ok (.rolImm (fieldD w) (fieldImm4 w))
  | 15 => .ok (.rorImm (fieldD w) (fieldImm4 w))
  | _ =>
    match (w.extractLsb' 0 5).toNat with
    | 16 => .ok (.bffo (fieldD w) (fieldS w))
    | 17 => .ok (.asrReg (fieldD w) (fieldS w))
    | 18 => .ok (.cslReg (fieldD w) (fieldS w))
    | 19 => .ok (.csrReg (fieldD w) (fieldS w))
    | 20 => .ok (.lslReg (fieldD w) (fieldS w))
    | 21 => .ok (.lsrReg (fieldD w) (fieldS w))
    | 22 => .ok (.rolReg (fieldD w) (fieldS w))
    | 23 => .ok (.rorReg (fieldD w) (fieldS w))
    | _ => .error (.illegalOpcode w)

/-- Major opcode `00010`: triadic logic by bits 1:0, `01` illegal (R126, R225). -/
def decodeLogic (w : Word) : Except DecodeError Instr :=
  match (w.extractLsb' 0 2).toNat with
  | 0 => .ok (.and (fieldD w) (fieldS w) (fieldT w))
  | 2 => .ok (.or (fieldD w) (fieldS w) (fieldT w))
  | 3 => .ok (.xnor (fieldD w) (fieldS w) (fieldT w))
  | _ => .error (.illegalOpcode w)

/-- Major opcode `00011`: triadic arithmetic by bits 1:0 (R126). -/
def decodeArith (w : Word) : Instr :=
  match (w.extractLsb' 0 2).toNat with
  | 0 => .sub (fieldD w) (fieldS w) (fieldT w)
  | 1 => .sbc (fieldD w) (fieldS w) (fieldT w)
  | 2 => .add (fieldD w) (fieldS w) (fieldT w)
  | _ => .adc (fieldD w) (fieldS w) (fieldT w)

/-- Bits 15:13 = `001`: the conditional branches by bits 12:9, and BRA where bits 12:10 are `111` (R127, R128). -/
def decodeBranch (w : Word) : Instr :=
  match (w.extractLsb' 9 4).toNat with
  | 0 => .bcc (fieldRel9 w)
  | 1 => .bcs (fieldRel9 w)
  | 2 => .bne (fieldRel9 w)
  | 3 => .beq (fieldRel9 w)
  | 4 => .bpl (fieldRel9 w)
  | 5 => .bmi (fieldRel9 w)
  | 6 => .bvc (fieldRel9 w)
  | 7 => .bvs (fieldRel9 w)
  | 8 => .bhi (fieldRel9 w)
  | 9 => .bls (fieldRel9 w)
  | 10 => .bge (fieldRel9 w)
  | 11 => .blt (fieldRel9 w)
  | 12 => .bgt (fieldRel9 w)
  | 13 => .ble (fieldRel9 w)
  | _ => .bra (fieldRel10 w)

/-- Bits 15:13 = `010`: the IDO5 loads and stores by bits 12:11 (R129). -/
def decodeOffset (w : Word) : Instr :=
  match (w.extractLsb' 11 2).toNat with
  | 0 => .ldbOff (fieldD w) (fieldS w) (fieldOffs5 w)
  | 1 => .ldwOff (fieldD w) (fieldS w) (fieldOffs5 w)
  | 2 => .stbOff (fieldD w) (fieldS w) (fieldOffs5 w)
  | _ => .stwOff (fieldD w) (fieldS w) (fieldOffs5 w)

/-- Bits 15:13 = `011`: bits 1:0 first (R310), then bits 12:11 (R130, R132). -/
def decodeIndexed (w : Word) : Instr :=
  match (w.extractLsb' 0 2).toNat with
  | 0 =>
    match (w.extractLsb' 11 2).toNat with
    | 0 => .ldbIdx (fieldD w) (fieldS w) (fieldT w)
    | 1 => .ldwIdx (fieldD w) (fieldS w) (fieldT w)
    | 2 => .stbIdx (fieldD w) (fieldS w) (fieldT w)
    | _ => .stwIdx (fieldD w) (fieldS w) (fieldT w)
  | 1 =>
    match (w.extractLsb' 11 2).toNat with
    | 0 => .ldbInc (fieldD w) (fieldS w) (fieldT w)
    | 1 => .ldwInc (fieldD w) (fieldS w) (fieldT w)
    | 2 => .stbInc (fieldD w) (fieldS w) (fieldT w)
    | _ => .stwInc (fieldD w) (fieldS w) (fieldT w)
  | 2 =>
    match (w.extractLsb' 11 2).toNat with
    | 0 => .ldbDec (fieldD w) (fieldS w) (fieldT w)
    | 1 => .ldwDec (fieldD w) (fieldS w) (fieldT w)
    | 2 => .stbDec (fieldD w) (fieldS w) (fieldT w)
    | _ => .stwDec (fieldD w) (fieldS w) (fieldT w)
  | _ =>
    match (w.extractLsb' 11 2).toNat with
    | 0 => .bfext (fieldD w) (fieldS w) (fieldT w)
    | 1 => .bfins (fieldD w) (fieldS w) (fieldT w)
    | 2 => .bfinsi (fieldD w) (fieldS w) (fieldT w)
    | _ => .bfinsx (fieldD w) (fieldS w) (fieldT w)

/-- Bit 15 = 1: the 8-bit immediate instructions by bits 14:11 (R131). -/
def decodeImm8 (w : Word) : Instr :=
  match (w.extractLsb' 11 4).toNat with
  | 0 => .andl (fieldD w) (fieldImm8 w)
  | 1 => .andh (fieldD w) (fieldImm8 w)
  | 2 => .bitl (fieldD w) (fieldImm8 w)
  | 3 => .bith (fieldD w) (fieldImm8 w)
  | 4 => .orl (fieldD w) (fieldImm8 w)
  | 5 => .orh (fieldD w) (fieldImm8 w)
  | 6 => .xnorl (fieldD w) (fieldImm8 w)
  | 7 => .xnorh (fieldD w) (fieldImm8 w)
  | 8 => .subl (fieldD w) (fieldImm8 w)
  | 9 => .subh (fieldD w) (fieldImm8 w)
  | 10 => .cmpl (fieldD w) (fieldImm8 w)
  | 11 => .cpch (fieldD w) (fieldImm8 w)
  | 12 => .addl (fieldD w) (fieldImm8 w)
  | 13 => .addh (fieldD w) (fieldImm8 w)
  | 14 => .ldl (fieldD w) (fieldImm8 w)
  | _ => .ldh (fieldD w) (fieldImm8 w)

/-- R140: the one instruction a word stands for, or the error that it is an illegal opcode. -/
def decodeWord (w : Word) : Except DecodeError Instr :=
  match (w.extractLsb' 11 5).toNat with
  | 0 => decodeSystem w
  | 1 => decodeShift w
  | 2 => decodeLogic w
  | 3 => .ok (decodeArith w)
  | 4 | 5 | 6 | 7 => .ok (decodeBranch w)
  | 8 | 9 | 10 | 11 => .ok (decodeOffset w)
  | 12 | 13 | 14 | 15 => .ok (decodeIndexed w)
  | _ => .ok (decodeImm8 w)

/-- Decoding the bytes of the instruction stream: one big-endian word (R120), and the bytes after it. -/
def decodeBytes : List Byte → Except DecodeError (Instr × List Byte)
  | h :: l :: rest =>
    match decodeWord (joinBytes h l) with
    | .ok i => .ok (i, rest)
    | .error e => .error e
  | _ => .error .truncated

/-! ## Encoding -/

/-- A field at its place in the word: the field's lowest bit is bit `lo`. -/
def put {n : Nat} (lo : Nat) (b : BitVec n) : Word := b.setWidth 16 <<< lo

/-- The word of an instruction: the row's value with all fields 0 (R136), and its fields at their places. -/
def encode : Instr → Word
  | .brk => 0x0000#16
  | .nop => 0x0100#16
  | .rts => 0x0200#16
  | .sif => 0x0300#16
  | .csemImm k => 0x00F0#16 ||| put 8 k
  | .csemReg rs => 0x00F1#16 ||| put 8 rs.bits
  | .ssemImm k => 0x00F2#16 ||| put 8 k
  | .ssemReg rs => 0x00F3#16 ||| put 8 rs.bits
  | .sex rd => 0x00F4#16 ||| put 8 rd.bits
  | .par rd => 0x00F5#16 ||| put 8 rd.bits
  | .jal rd => 0x00F6#16 ||| put 8 rd.bits
  | .sifReg rs => 0x00F7#16 ||| put 8 rs.bits
  | .tfrFromCcr rd => 0x00F8#16 ||| put 8 rd.bits
  | .tfrToCcr rs => 0x00F9#16 ||| put 8 rs.bits
  | .bffo rd rs => 0x0810#16 ||| put 8 rd.bits ||| put 5 rs.bits
  | .asrReg rd rs => 0x0811#16 ||| put 8 rd.bits ||| put 5 rs.bits
  | .cslReg rd rs => 0x0812#16 ||| put 8 rd.bits ||| put 5 rs.bits
  | .csrReg rd rs => 0x0813#16 ||| put 8 rd.bits ||| put 5 rs.bits
  | .lslReg rd rs => 0x0814#16 ||| put 8 rd.bits ||| put 5 rs.bits
  | .lsrReg rd rs => 0x0815#16 ||| put 8 rd.bits ||| put 5 rs.bits
  | .rolReg rd rs => 0x0816#16 ||| put 8 rd.bits ||| put 5 rs.bits
  | .rorReg rd rs => 0x0817#16 ||| put 8 rd.bits ||| put 5 rs.bits
  | .asrImm rd n => 0x0809#16 ||| put 8 rd.bits ||| put 4 n
  | .cslImm rd n => 0x080A#16 ||| put 8 rd.bits ||| put 4 n
  | .csrImm rd n => 0x080B#16 ||| put 8 rd.bits ||| put 4 n
  | .lslImm rd n => 0x080C#16 ||| put 8 rd.bits ||| put 4 n
  | .lsrImm rd n => 0x080D#16 ||| put 8 rd.bits ||| put 4 n
  | .rolImm rd n => 0x080E#16 ||| put 8 rd.bits ||| put 4 n
  | .rorImm rd n => 0x080F#16 ||| put 8 rd.bits ||| put 4 n
  | .and rd rs1 rs2 => 0x1000#16 ||| put 8 rd.bits ||| put 5 rs1.bits ||| put 2 rs2.bits
  | .or rd rs1 rs2 => 0x1002#16 ||| put 8 rd.bits ||| put 5 rs1.bits ||| put 2 rs2.bits
  | .xnor rd rs1 rs2 => 0x1003#16 ||| put 8 rd.bits ||| put 5 rs1.bits ||| put 2 rs2.bits
  | .sub rd rs1 rs2 => 0x1800#16 ||| put 8 rd.bits ||| put 5 rs1.bits ||| put 2 rs2.bits
  | .sbc rd rs1 rs2 => 0x1801#16 ||| put 8 rd.bits ||| put 5 rs1.bits ||| put 2 rs2.bits
  | .add rd rs1 rs2 => 0x1802#16 ||| put 8 rd.bits ||| put 5 rs1.bits ||| put 2 rs2.bits
  | .adc rd rs1 rs2 => 0x1803#16 ||| put 8 rd.bits ||| put 5 rs1.bits ||| put 2 rs2.bits
  | .bcc rel => 0x2000#16 ||| put 0 rel
  | .bcs rel => 0x2200#16 ||| put 0 rel
  | .bne rel => 0x2400#16 ||| put 0 rel
  | .beq rel => 0x2600#16 ||| put 0 rel
  | .bpl rel => 0x2800#16 ||| put 0 rel
  | .bmi rel => 0x2A00#16 ||| put 0 rel
  | .bvc rel => 0x2C00#16 ||| put 0 rel
  | .bvs rel => 0x2E00#16 ||| put 0 rel
  | .bhi rel => 0x3000#16 ||| put 0 rel
  | .bls rel => 0x3200#16 ||| put 0 rel
  | .bge rel => 0x3400#16 ||| put 0 rel
  | .blt rel => 0x3600#16 ||| put 0 rel
  | .bgt rel => 0x3800#16 ||| put 0 rel
  | .ble rel => 0x3A00#16 ||| put 0 rel
  | .bra rel => 0x3C00#16 ||| put 0 rel
  | .ldbOff rd rb off => 0x4000#16 ||| put 8 rd.bits ||| put 5 rb.bits ||| put 0 off
  | .ldwOff rd rb off => 0x4800#16 ||| put 8 rd.bits ||| put 5 rb.bits ||| put 0 off
  | .stbOff rs rb off => 0x5000#16 ||| put 8 rs.bits ||| put 5 rb.bits ||| put 0 off
  | .stwOff rs rb off => 0x5800#16 ||| put 8 rs.bits ||| put 5 rb.bits ||| put 0 off
  | .ldbIdx rd rb ri => 0x6000#16 ||| put 8 rd.bits ||| put 5 rb.bits ||| put 2 ri.bits
  | .ldwIdx rd rb ri => 0x6800#16 ||| put 8 rd.bits ||| put 5 rb.bits ||| put 2 ri.bits
  | .stbIdx rs rb ri => 0x7000#16 ||| put 8 rs.bits ||| put 5 rb.bits ||| put 2 ri.bits
  | .stwIdx rs rb ri => 0x7800#16 ||| put 8 rs.bits ||| put 5 rb.bits ||| put 2 ri.bits
  | .ldbInc rd rb ri => 0x6001#16 ||| put 8 rd.bits ||| put 5 rb.bits ||| put 2 ri.bits
  | .ldwInc rd rb ri => 0x6801#16 ||| put 8 rd.bits ||| put 5 rb.bits ||| put 2 ri.bits
  | .stbInc rs rb ri => 0x7001#16 ||| put 8 rs.bits ||| put 5 rb.bits ||| put 2 ri.bits
  | .stwInc rs rb ri => 0x7801#16 ||| put 8 rs.bits ||| put 5 rb.bits ||| put 2 ri.bits
  | .ldbDec rd rb ri => 0x6002#16 ||| put 8 rd.bits ||| put 5 rb.bits ||| put 2 ri.bits
  | .ldwDec rd rb ri => 0x6802#16 ||| put 8 rd.bits ||| put 5 rb.bits ||| put 2 ri.bits
  | .stbDec rs rb ri => 0x7002#16 ||| put 8 rs.bits ||| put 5 rb.bits ||| put 2 ri.bits
  | .stwDec rs rb ri => 0x7802#16 ||| put 8 rs.bits ||| put 5 rb.bits ||| put 2 ri.bits
  | .bfext rd rs1 rs2 => 0x6003#16 ||| put 8 rd.bits ||| put 5 rs1.bits ||| put 2 rs2.bits
  | .bfins rd rs1 rs2 => 0x6803#16 ||| put 8 rd.bits ||| put 5 rs1.bits ||| put 2 rs2.bits
  | .bfinsi rd rs1 rs2 => 0x7003#16 ||| put 8 rd.bits ||| put 5 rs1.bits ||| put 2 rs2.bits
  | .bfinsx rd rs1 rs2 => 0x7803#16 ||| put 8 rd.bits ||| put 5 rs1.bits ||| put 2 rs2.bits
  | .andl rd k => 0x8000#16 ||| put 8 rd.bits ||| put 0 k
  | .andh rd k => 0x8800#16 ||| put 8 rd.bits ||| put 0 k
  | .bitl rd k => 0x9000#16 ||| put 8 rd.bits ||| put 0 k
  | .bith rd k => 0x9800#16 ||| put 8 rd.bits ||| put 0 k
  | .orl rd k => 0xA000#16 ||| put 8 rd.bits ||| put 0 k
  | .orh rd k => 0xA800#16 ||| put 8 rd.bits ||| put 0 k
  | .xnorl rd k => 0xB000#16 ||| put 8 rd.bits ||| put 0 k
  | .xnorh rd k => 0xB800#16 ||| put 8 rd.bits ||| put 0 k
  | .subl rd k => 0xC000#16 ||| put 8 rd.bits ||| put 0 k
  | .subh rd k => 0xC800#16 ||| put 8 rd.bits ||| put 0 k
  | .cmpl rs k => 0xD000#16 ||| put 8 rs.bits ||| put 0 k
  | .cpch rs k => 0xD800#16 ||| put 8 rs.bits ||| put 0 k
  | .addl rd k => 0xE000#16 ||| put 8 rd.bits ||| put 0 k
  | .addh rd k => 0xE800#16 ||| put 8 rd.bits ||| put 0 k
  | .ldl rd k => 0xF000#16 ||| put 8 rd.bits ||| put 0 k
  | .ldh rd k => 0xF800#16 ||| put 8 rd.bits ||| put 0 k

/-- The two bytes of an instruction in the order they are stored, most significant first (R84). -/
def encodeBytes (i : Instr) : List Byte := [highByte (encode i), lowByte (encode i)]

/-! ## The opcode table's numbering of bits -/

/-- The one instruction word whose low `nbits` bits are those of `w`, the rest zero. -/
def tableWord (nbits w : Nat) : Word := BitVec.ofNat 16 (w % 2 ^ nbits)

/-- What the decoder reads from the bytes of a row's word, as the hardware stores them (R84). -/
def decodeTableWord (nbits w : Nat) : Option Instr :=
  match decodeBytes [highByte (tableWord nbits w), lowByte (tableWord nbits w)] with
  | .ok (i, _) => some i
  | .error _ => none

end Sys2Proof
end

