-- ==== Sys2Proof/Config.lean ====
section
/-! DEFINITION. What the chip fixes (R5) and the free values, which the spec leaves open. The chip's parameters are a
record that the state carries unchanged (assumption log 1), so a statement about every state holds for every chip.
The free values are constants without a body: nothing can be proved of them, so a claim holds whatever they are. -/

namespace Sys2Proof

/-! ## The parameters of the chip -/

/-- The two possible positions of XGSS in XGMCTL (R37, D7). -/
inductive XgssBit
  | bit3
  | bit2
deriving DecidableEq, Repr

/-- The bit number of XGSS (R37). -/
def XgssBit.index : XgssBit → Nat
  | .bit3 => 3
  | .bit2 => 2

/-- The parameters that the block guide leaves to the chip (R5, R113). `select` and the peripherals are free values
below. -/
structure Chip where
  /-- RAM_SIZE, in bytes (D2). -/
  ramSize : Nat
  /-- XGATE_BASE, the address of module register +$00 in the Register Space (D3). -/
  xgateBase : Word
  /-- IMPL_CH, bit n for channel n (D4). Only bits $09..$78 can name a channel (see `Chip.channels`). -/
  implCh : BitVec 128
  /-- SWT_CH[0..7], the channel of each software trigger (D17). -/
  swtCh : List (BitVec 7)
  /-- SECURED (D17). -/
  secured : Bool
  /-- XGSS_BIT (D7). -/
  xgssBit : XgssBit
  /-- SWT_GATED_BY_XGIE (D19). -/
  swtGatedByXgie : Bool
  /-- The ranges (first, last) of RAM addresses for which Protected(a) holds (D20). -/
  protectedRam : List (Word × Word)
deriving DecidableEq, Repr

namespace Config

/-- Bits $09 to $78: "valid Channel IDs" (R12, R46). -/
def channelMask : BitVec 128 := 0x01FFFFFFFFFFFFFFFFFFFFFFFFFFFE00#128

/-- The chip a run from reset is on. DESIGN CHOICE (assumption log 1): the defaults of D2, D3, D7, D17, D19 and D20, and
where those name none, every channel implemented and the software triggers on channels $09 to $10. -/
def defaultChip : Chip where
  ramSize := 0x5000
  xgateBase := 0x0380
  implCh := channelMask
  swtCh := [0x09, 0x0A, 0x0B, 0x0C, 0x0D, 0x0E, 0x0F, 0x10]
  secured := false
  xgssBit := .bit3
  swtGatedByXgie := true
  protectedRam := []

end Config

/-- IMPL_CH as the rules use it, "subset of $09..$78" (R5). -/
def Chip.channels (c : Chip) : BitVec 128 := c.implCh &&& Config.channelMask

/-- The values the decisions allow: RAM_SIZE even and at most 512K (D2), above the 2K where the list of R44 ends (U15);
XGATE_BASE even with XGATE_BASE + $39 <= $07FF (D3); eight distinct software channels, members of IMPL_CH (D17). -/
def Chip.wellFormed (c : Chip) : Bool :=
  c.ramSize % 2 == 0 && decide (0x800 < c.ramSize) && decide (c.ramSize ≤ 0x80000)
    && !c.xgateBase.getLsbD 0 && decide (c.xgateBase.toNat + 0x39 ≤ 0x07FF)
    && c.implCh &&& ~~~Config.channelMask == 0
    && c.swtCh.length == 8 && decide c.swtCh.Nodup
    && c.swtCh.all (fun ch => c.channels.getLsbD ch.toNat)

/-! ## The device oracle's history -/

/-- The two processors that reach the peripherals (R15, R392). -/
inductive Processor
  | core
  | host
deriving DecidableEq, Repr

/-- One access to a peripheral register, PeriphRead(a, n) or PeriphWrite(a, n, v) (R94). -/
inductive PeriphAccess
  | read (who : Processor) (w : Width) (a : Word)
  | write (who : Processor) (w : Width) (a : Word) (v : Word)
deriving DecidableEq, Repr

/-! ## Free values -/

namespace Config

/-- The content of a register where the spec leaves it undefined: R2 to R7 at a thread start (R23, U1), R1 after a failed
vector fetch and the destination and index register after a software error (R355, U3). The first argument is the
draw. Assumption log 4 and 5. -/
opaque freeReg : Nat → Reg → Word

/-- The flags at a thread start (R66, U2), as N:Z:V:C. Assumption log 4. -/
opaque freeCcr : Nat → BitVec 4

/-- The program counter after a software error (R355, U3), a failed vector fetch (R347) and RTS (R336, U8). Assumption
log 5 and 6. -/
opaque freePc : Nat → Word

/-- What a byte of RAM that nothing has written since the reset numbered by the first argument holds, by its global
address (R65, U12). Assumption log 3. -/
opaque ramContents : Nat → Nat → Byte

/-- PeriphRead(a, n) (R94, U11): what a device answers may depend on the draw (whatever happens outside), on every earlier
access, on the width and on the address. Assumption log 7. -/
opaque periphValue : Nat → List PeriphAccess → Width → Word → Word

/-- "What, if anything, appears on the bus" for a misaligned word access to the Register Space (R90, R93), newest first, by
the draw and the address. Assumption log 40. -/
opaque misalignedOnBus : Nat → Word → List PeriphAccess

/-- Which of several pending requests starts a thread (R345, U7), as a place in the list of them. Assumption log 15. -/
opaque selectIndex : Nat → BitVec 128 → Nat

/-- What a host read of XGCCR, XGPC or XGR1 to XGR7 returns on an unsecured device outside debug mode (R58, U4), by the
draw and the register's offset. Assumption log 20. -/
opaque hostReadOpen : Nat → BitVec 6 → Byte

end Config

end Sys2Proof
end

