-- ==== Sys2Proof/Machine/State.lean ====
section
/-! DEFINITION. The state of the machine as plain data: the core's registers, the module registers, the state they show
only indirectly (10_state.md), RAM, the inputs from the other agents, the outputs to them, and the model's own
counters. INVENTORY.md lists every field with its rule and its reset value. -/

namespace Sys2Proof.Machine

/-! ## Parts of the state -/

/-- The general registers that are storage, R1 to R7 (R20). R0 is no storage (R21). -/
structure Regs where
  r1 : Word
  r2 : Word
  r3 : Word
  r4 : Word
  r5 : Word
  r6 : Word
  r7 : Word
deriving DecidableEq, Repr

/-- The Condition Code Register: N is bit 3, Z bit 2, V bit 1, C bit 0 (R29). -/
structure CCR where
  n : Bool
  z : Bool
  v : Bool
  c : Bool
deriving DecidableEq, Repr

/-- "Each semaphore can only be in one of the three states" (R62). -/
inductive SemState
  | unlocked
  | lockedCPU
  | lockedXG
deriving DecidableEq, Repr

/-- The eight semaphores (R62). -/
structure Sems where
  s0 : SemState
  s1 : SemState
  s2 : SemState
  s3 : SemState
  s4 : SemState
  s5 : SemState
  s6 : SemState
  s7 : SemState
deriving DecidableEq, Repr

/-- RAM: the bytes written since reset, by global address (R103), addresses strictly rising. A byte that is not listed has
not been written; what it reads as is a free value (U12). -/
abbrev Memory := List Host.Cell

/-- The three segments of the XGATE address space (R81, R86). -/
inductive Space
  | register
  | ram
  | unmapped
deriving DecidableEq, Repr

/-- The run states of R61. -/
inductive RunState
  | halted
  | stopped
  | frozen
  | idle
  | running
deriving DecidableEq, Repr

/-- The eight error conditions of R351. The hardware records none of them (R353): no field of the state holds one. -/
inductive SoftwareError
  | vectorFromRegisterSpace
  | vectorFromUnmapped
  | misalignedFetch
  | fetchFromRegisterSpace
  | fetchFromUnmapped
  | misalignedData
  | unmappedData
  | illegalOpcode
deriving DecidableEq, Repr

/-- What moves next: the core, or another agent acting on the machine between two steps of the core (R392 to R394).
Offsets are those of the register block (R30); `g` is an address of the S12X global memory map (R103). -/
inductive Event
  /-- One step of the core (R394). -/
  | core
  /-- Byte write of the S12X_CPU to a module register (R30 to R59). -/
  | hostWriteByte (off : BitVec 6) (v : Byte)
  /-- Word write of the S12X_CPU to the module registers (R59). -/
  | hostWriteWord (off : BitVec 6) (v : Word)
  /-- Byte read of a module register. -/
  | hostReadByte (off : BitVec 6)
  /-- Word read of module registers. -/
  | hostReadWord (off : BitVec 6)
  /-- Byte write of the S12X_CPU to RAM (R392). -/
  | hostRamWriteByte (g : BitVec 20) (v : Byte)
  /-- Aligned word write of the S12X_CPU to RAM (R392). -/
  | hostRamWriteWord (g : BitVec 20) (v : Word)
  /-- Byte read of RAM by the S12X_CPU. -/
  | hostRamReadByte (g : BitVec 20)
  /-- Aligned word read of RAM by the S12X_CPU. -/
  | hostRamReadWord (g : BitVec 20)
  /-- Write of the S12X_CPU to a peripheral register (R392). -/
  | hostPeriphWrite (w : Width) (a : Word) (v : Word)
  /-- Read of a peripheral register by the S12X_CPU (R392). -/
  | hostPeriphRead (w : Width) (a : Word)
  /-- A hardware request line rises or falls (R341). -/
  | request (ch : BitVec 7) (on : Bool)
  /-- S12X_INT routes software trigger `k` to the XGATE, or to the S12X_CPU (R342). -/
  | routeTrigger (k : BitVec 3) (toXgate : Bool)
  /-- BDM becomes active or inactive (R386). -/
  | freeze (on : Bool)
  /-- S12X_DBG tags the opcode that is about to be executed (R376). -/
  | tag
  /-- A forced breakpoint (R377). -/
  | forcedBreakpoint
  /-- Reset of the module (R400). -/
  | reset
deriving DecidableEq, Repr

/-! ## The ways a step ends without a next state -/

/-- The machine's one stop by fault. The software errors of R351 are no faults of the model: they are next states (R352). -/
inductive Fault
  /-- Raised by a RAM access of the S12X_CPU (events hostRam…) at a global address that is not RAM (R103). Safe: the model
  stops where the host would reach something this spec does not describe. -/
  | hostAddressNotRam
deriving DecidableEq, Repr

/-- The traces to which the spec gives no meaning, and instructions not modelled. Each is safe: the model stops where the
hardware goes on in some way that the spec does not say. -/
inductive Refusal
  /-- Raised by exec's arms of instructions without a meaning (there is none). Safe. -/
  | notModelled (mnemonic : String)
  /-- Raised by LDB, LDW, STB, STW in the mode (RB,-RI) with RI = RB other than R0 (R178, D12, U5). Safe. -/
  | preDecrementOfBase
  /-- Raised by a load or store of the core to its own register block, XGSWT apart (R94, D3, U16). Safe. -/
  | ownModuleRegister
  /-- Raised by an access of the core (data, opcode or vector) to protected RAM (R111, D20, U10). Safe. -/
  | protectedRam
  /-- Raised by a write, while a thread runs, to the program word the core has prefetched (R109, D15, U6). Safe. -/
  | prefetchedWordWritten
  /-- Raised by a host access that R59 and D24 do not admit: a misaligned word, a word at an 8-bit register, or outside the
  block (U14). Safe. -/
  | hostAccess
deriving DecidableEq, Repr

/-! ## The state -/

structure State where
  /-- R1 to R7 (R20, R57). -/
  regs : Regs
  /-- The program counter (R25, R56): the address of the instruction that executes next. -/
  pc : Word
  /-- N, Z, V, C (R29, R55). -/
  ccr : CCR
  /-- XGATE Module Enable (R32). -/
  xge : Bool
  /-- Stop XGATE in Freeze Mode (R33). -/
  xgfrz : Bool
  /-- XGATE Debug Mode (R35). -/
  xgdbg : Bool
  /-- XGATE Software Error Interrupt Flag (R38). -/
  xgsweif : Bool
  /-- XGATE Interrupt Enable (R39). -/
  xgie : Bool
  /-- The ID of the active channel, 0 when idle (R41). -/
  xgchid : BitVec 7
  /-- The Vector Base Address Register (R43). -/
  xgvbr : BitVec 32
  /-- The Channel Interrupt Flag Vector (R46). -/
  xgif : BitVec 128
  /-- The Software Triggers (R49). -/
  xgswt : BitVec 8
  /-- The semaphores (R62); XGSEM is a view of them (R53). -/
  sem : Sems
  /-- A debug request that waits for the current instruction to complete (R60, R374). -/
  dbgReq : Bool
  /-- A thread to be started on leaving debug mode (R60, R381). -/
  startPending : Bool
  /-- The RAM bytes written since reset (R95). -/
  ram : Memory
  /-- The model's own: which reset the bytes not yet written date from. -/
  ramEpoch : Nat
  /-- Input: the request lines of the hardware channels after routing (R341). -/
  reqLines : BitVec 128
  /-- Input: bit k, S12X_INT routes software trigger k to the XGATE (R342). -/
  triggerRoute : BitVec 8
  /-- Input: "BDM active" (R386). -/
  freezeInput : Bool
  /-- Input: the opcode about to be executed carries a tag (R60, R376). -/
  tagged : Bool
  /-- The model's own: what the other agents do next (R394); empty, only the core moves. -/
  env : List Event
  /-- The model's own: the peripheral accesses made, newest first (R94). -/
  periph : List PeriphAccess
  /-- The model's own: how many Software Breakpoint Requests went to S12X_DBG (R334, R393). -/
  breakReqs : Nat
  /-- The model's own: what the S12X_CPU's last read returned. -/
  hostData : Word
  /-- The model's own: the counter of the free values drawn. -/
  draws : Nat
  /-- The chip's parameters (R5); no step changes them. -/
  chip : Chip
deriving DecidableEq, Repr

/-- The machine right after reset (R63, R65, R400). The chip, the inputs and the model's own fields have the values of
assumption log 1, 14 and 23. -/
def State.reset : State where
  regs := { r1 := 0, r2 := 0, r3 := 0, r4 := 0, r5 := 0, r6 := 0, r7 := 0 }
  pc := 0
  ccr := { n := false, z := false, v := false, c := false }
  xge := false
  xgfrz := false
  xgdbg := false
  xgsweif := false
  xgie := false
  xgchid := 0
  xgvbr := 0x000FFE00
  xgif := 0
  xgswt := 0
  sem := { s0 := .unlocked, s1 := .unlocked, s2 := .unlocked, s3 := .unlocked,
           s4 := .unlocked, s5 := .unlocked, s6 := .unlocked, s7 := .unlocked }
  dbgReq := false
  startPending := false
  ram := []
  ramEpoch := 0
  reqLines := 0
  triggerRoute := 0
  freezeInput := false
  tagged := false
  env := []
  periph := []
  breakReqs := 0
  hostData := 0
  draws := 0
  chip := Config.defaultChip

end Sys2Proof.Machine
end

