-- ==== Sys2Proof/Machine/Ops.lean ====
section
/-! DEFINITION. The named operations every meaning is made of: registers, RAM, the XGATE memory map and its four kinds of
access (20_memory.md), software errors, thread start and thread end (60_exceptions.md), semaphores and flags. -/

namespace Sys2Proof.Machine

/-! ## Outcomes -/

/-- Go on with `f` where the first part answers a next state. -/
def thenDo (o : Host.Outcome State Fault Refusal) (f : State → Host.Outcome State Fault Refusal) :
    Host.Outcome State Fault Refusal :=
  match o with
  | .next s => f s
  | .fault e => .fault e
  | .refused r => .refused r

/-- Change the next state where there is one. -/
def onNext (o : Host.Outcome State Fault Refusal) (f : State → State) : Host.Outcome State Fault Refusal :=
  match o with
  | .next s => .next (f s)
  | .fault e => .fault e
  | .refused r => .refused r

/-! ## Registers (R20, R21) -/

/-- R0 reads $0000 (R21). -/
def Regs.get (rs : Regs) : Reg → Word
  | .r0 => 0
  | .r1 => rs.r1
  | .r2 => rs.r2
  | .r3 => rs.r3
  | .r4 => rs.r4
  | .r5 => rs.r5
  | .r6 => rs.r6
  | .r7 => rs.r7

/-- "A write to R0 is discarded" (R21). -/
def Regs.set (rs : Regs) (r : Reg) (v : Word) : Regs :=
  match r with
  | .r0 => rs
  | .r1 => { rs with r1 := v }
  | .r2 => { rs with r2 := v }
  | .r3 => { rs with r3 := v }
  | .r4 => { rs with r4 := v }
  | .r5 => { rs with r5 := v }
  | .r6 => { rs with r6 := v }
  | .r7 => { rs with r7 := v }

/-- `x[i]` of R8. -/
def State.reg (s : State) (r : Reg) : Word := s.regs.get r

/-- `x[i] <- v` of R8. -/
def State.setReg (s : State) (r : Reg) (v : Word) : State := { s with regs := s.regs.set r v }

/-- Write the flags. -/
def State.setCcr (s : State) (f : CCR) : State := { s with ccr := f }

/-- `pc <- t` of R8. -/
def State.setPc (s : State) (t : Word) : State := { s with pc := t }

/-- `pc <- pc + 2`, modulo 2^16 (R26). -/
def State.advance (s : State) : State := s.setPc (s.pc + 2)

/-- What every computing instruction does with its result: the destination (R0 discards it, R21), the flags, and the
advance of pc (R8). -/
def State.writeResult (s : State) (rd : Reg) (r : Word) (f : CCR) : State := ((s.setReg rd r).setCcr f).advance

/-- The 4-bit value N:Z:V:C (R29). -/
def CCR.bits (f : CCR) : BitVec 4 :=
  BitVec.ofBool f.n ++ BitVec.ofBool f.z ++ BitVec.ofBool f.v ++ BitVec.ofBool f.c

/-- The flags of a 4-bit value N:Z:V:C (R29). -/
def CCR.ofBits (b : BitVec 4) : CCR :=
  { n := b.getLsbD 3, z := b.getLsbD 2, v := b.getLsbD 1, c := b.getLsbD 0 }

/-! ## Run state (R61) -/

/-- The conditions of R61, "tested in this order". -/
def runState (s : State) : RunState :=
  if s.xgdbg then .halted
  else if s.xgsweif then .stopped
  else if s.freezeInput && s.xgfrz then .frozen
  else if s.xgchid == 0 then .idle
  else .running

/-! ## RAM as data -/

/-- The byte written at a global address since reset, if any. -/
def Memory.lookup : Memory → Nat → Option Byte
  | [], _ => none
  | (k, b) :: m, a => if k = a then some b else Memory.lookup m a

/-- Write one byte, keeping the addresses strictly rising. -/
def Memory.write : Memory → Nat → Byte → Memory
  | [], a, v => [(a, v)]
  | (k, b) :: m, a, v =>
    if a < k then (a, v) :: (k, b) :: m
    else if a = k then (a, v) :: m
    else (k, b) :: Memory.write m a v

/-- The canonical form: global addresses of 20 bits, strictly rising. An unlisted address is a byte not yet written
(`Memory.lookup` is none there), which no entry equals. -/
abbrev Memory.wf (m : Memory) : Prop :=
  List.Pairwise (fun p q : Host.Cell => p.1 < q.1) m ∧ ∀ p ∈ m, p.1 < 2 ^ 20

/-! ## The memory map (R86 to R88, R103) -/

/-- Space(a) of R88. -/
def space (c : Chip) (a : Word) : Space :=
  if a.toNat ≤ 0x07FF then .register
  else if 0x10000 - min c.ramSize 0xF800 ≤ a.toNat then .ram
  else .unmapped

/-- The global address of an XGATE address in the RAM Space: $0F:a, and XGVBR[19:16]:a for RAM larger than 64 kb (R87,
R103). DESIGN CHOICE: a window that reaches below the first RAM byte is RAM to the core there as well (assumption log
28). -/
def globalAddress (c : Chip) (vbr : BitVec 32) (a : Word) : BitVec 20 :=
  (if c.ramSize ≤ 0x10000 then 0xF#4 else vbr.extractLsb' 16 4) ++ a

/-- What a RAM byte holds, by its global address: what was last written (R95), or a free value (U12). -/
def State.globalByte (s : State) (g : BitVec 20) : Byte :=
  (Memory.lookup s.ram g.toNat).getD (Config.ramContents s.ramEpoch g.toNat)

/-- Write a RAM byte by its global address. -/
def State.setGlobalByte (s : State) (g : BitVec 20) (v : Byte) : State :=
  { s with ram := Memory.write s.ram g.toNat v }

/-- `ram[a]` (R89). -/
def State.ramByte (s : State) (a : Word) : Byte := s.globalByte (globalAddress s.chip s.xgvbr a)

/-- `ram[a] <- v` (R91). -/
def State.setRamByte (s : State) (a : Word) (v : Byte) : State :=
  s.setGlobalByte (globalAddress s.chip s.xgvbr a) v

/-- `ram[a] : ram[a+1]`, big-endian (R84, R90). -/
def State.ramWord (s : State) (a : Word) : Word := joinBytes (s.ramByte a) (s.ramByte (a + 1))

/-- `ram[a] <- v[15:8]; ram[a+1] <- v[7:0]` (R92). -/
def State.setRamWord (s : State) (a : Word) (v : Word) : State :=
  (s.setRamByte a (highByte v)).setRamByte (a + 1) (lowByte v)

/-- What a read of either width finds in RAM: a byte is zero-extended (R89, R90, R166). -/
def State.ramRead (s : State) (w : Width) (a : Word) : Word :=
  match w with
  | .byte => (s.ramByte a).setWidth 16
  | .word => s.ramWord a

/-- What a write of either width leaves in RAM: a byte write takes bits 7:0 (R91, R92, R182). -/
def State.ramWrite (s : State) (w : Width) (a v : Word) : State :=
  match w with
  | .byte => s.setRamByte a (lowByte v)
  | .word => s.setRamWord a v

/-- Protected(a) of R111 for one byte. -/
def isProtected (c : Chip) (a : Word) : Bool :=
  c.protectedRam.any (fun p => decide (p.1.toNat ≤ a.toNat) && decide (a.toNat ≤ p.2.toNat))

/-- Protected(a) for an access: some byte of it is protected (R111). -/
def accessProtected (c : Chip) (w : Width) (a : Word) : Bool :=
  match w with
  | .byte => isProtected c a
  | .word => isProtected c a || isProtected c (a + 1)

/-! ## Accesses -/

/-- Why an access did not complete: one of the error conditions of R351, or a trace without meaning. -/
inductive Stop
  | error (e : SoftwareError)
  | refused (r : Refusal)
deriving DecidableEq, Repr

/-- The number of bytes of an access: 1 for LDB and STB, 2 for LDW and STW. -/
def accessSize : Width → Word
  | .byte => 1
  | .word => 2

/-- An `8n`-bit value as the 16-bit value it is read as: a byte is zero-extended (R89, R166). -/
def accessValue (w : Width) (v : Word) : Word :=
  match w with
  | .byte => v &&& 0x00FF
  | .word => v

/-- "Misaligned load/store word accesses": a word access at an odd address (R99). -/
def misaligned (w : Width) (a : Word) : Bool := decide (w = .word) && a.getLsbD 0

/-- Whether an access at `a` touches the byte at `p`. -/
def accessTouches (w : Width) (a p : Word) : Bool := a == p || (decide (w = .word) && a + 1 == p)

/-- The offset of an address in the module's own register block, if it lies there (R30, R94). -/
def ownOffset (c : Chip) (a : Word) : Option (BitVec 6) :=
  if decide (c.xgateBase.toNat ≤ a.toNat) && decide (a.toNat ≤ c.xgateBase.toNat + 0x39) then
    some (BitVec.ofNat 6 (a.toNat - c.xgateBase.toNat))
  else none

/-- PeriphRead(a, n) of R94 by one of the processors: the value is free, the access is recorded. -/
def periphRead (who : Processor) (w : Width) (a : Word) (s : State) : Word × State :=
  (accessValue w (Config.periphValue s.draws s.periph w a),
    { s with periph := .read who w a :: s.periph, draws := s.draws + 1 })

/-- PeriphWrite(a, n, v) of R94 by one of the processors: the access is recorded. -/
def periphWrite (who : Processor) (w : Width) (a : Word) (v : Word) (s : State) : State :=
  { s with periph := .write who w a (accessValue w v) :: s.periph }

/-- The host's write of a word to XGSWT (R50): for k in 0..7, if v[8+k] = 1 then xgswt[k] <- v[k]. -/
def triggerWrite (v : Word) (t : BitVec 8) : BitVec 8 :=
  (t &&& ~~~highByte v) ||| (lowByte v &&& highByte v)

/-- A store by the core to XGSWT: a word acts like the host's write (D3), a byte alone changes nothing (R50). -/
def storeTriggers (w : Width) (v : Word) (s : State) : State :=
  match w with
  | .byte => s
  | .word => { s with xgswt := triggerWrite v s.xgswt }

/-- A load from the Register Space. In the module's own block a load from XGSWT "returns what the host would read" (D3;
the mask byte reads $00, R49) and every other one is refused. -/
def registerRead (w : Width) (a : Word) (s : State) : Except Stop (Word × State) :=
  match ownOffset s.chip a with
  | none => .ok (periphRead .core w a s)
  | some off =>
    if off = 0x18 then .ok ((match w with | .byte => 0 | .word => s.xgswt.setWidth 16), s)
    else if off = 0x19 then .ok (s.xgswt.setWidth 16, s)
    else .error (.refused .ownModuleRegister)

/-- A store to the Register Space. In the module's own block a word store to XGSWT acts like the host's write (D3, R50),
a byte store to either byte of it changes nothing (R50 "in the same access"), and every other one is refused. -/
def registerWrite (w : Width) (a : Word) (v : Word) (s : State) : Except Stop State :=
  match ownOffset s.chip a with
  | none => .ok (periphWrite .core w a v s)
  | some off =>
    if off = 0x18 ∨ off = 0x19 then
      .ok (storeTriggers w v s)
    else .error (.refused .ownModuleRegister)

/-- MemRead(a, n) of R89 and R90. -/
def memRead (w : Width) (a : Word) (s : State) : Except Stop (Word × State) :=
  if misaligned w a then .error (.error .misalignedData)
  else
    match space s.chip a with
    | .ram =>
      if accessProtected s.chip w a then .error (.refused .protectedRam)
      else .ok (s.ramRead w a, s)
    | .register => registerRead w a s
    | .unmapped => .error (.error .unmappedData)

/-- The word the core has prefetched while it executes the instruction at pc is the one at pc + 2 (R106, D15). It is in
the pipe only while a thread runs, not while the core is halted and steps (D15 "not halted"). -/
def writesPrefetched (w : Width) (a : Word) (s : State) : Bool :=
  !s.xgdbg && (accessTouches w a (s.pc + 2) || accessTouches w a (s.pc + 3))

/-- MemWrite(a, n, v) of R91 and R92; a store to the prefetched word is refused (R109). -/
def memWrite (w : Width) (a : Word) (v : Word) (s : State) : Except Stop State :=
  if misaligned w a then .error (.error .misalignedData)
  else
    match space s.chip a with
    | .ram =>
      if accessProtected s.chip w a then .error (.refused .protectedRam)
      else if writesPrefetched w a s then .error (.refused .prefetchedWordWritten)
      else .ok (s.ramWrite w a v)
    | .register => registerWrite w a v s
    | .unmapped => .error (.error .unmappedData)

/-- Fetch(a) of R97. The read that a fetch from the Register Space makes before its error is `illegalAccess`'s (assumption
log 40). -/
def fetchWord (a : Word) (s : State) : Except Stop Word :=
  if a.getLsbD 0 then .error (.error .misalignedFetch)
  else
    match space s.chip a with
    | .ram => if accessProtected s.chip .word a then .error (.refused .protectedRam) else .ok (s.ramWord a)
    | .register => .error (.error .fetchFromRegisterSpace)
    | .unmapped => .error (.error .fetchFromUnmapped)

/-- VecRead(a) of R98. The read that a vector fetch from the Register Space makes before its error is `illegalAccess`'s
(assumption log 40). -/
def vecRead (a : Word) (s : State) : Except Stop Word :=
  match space s.chip a with
  | .ram => if accessProtected s.chip .word a then .error (.refused .protectedRam) else .ok (s.ramWord a)
  | .register => .error (.error .vectorFromRegisterSpace)
  | .unmapped => .error (.error .vectorFromUnmapped)

/-! ## Taking an exception: the software error (R352 to R355)

The machine has no handler, no saved pc and no saved status (R340): an error sets XGSWEIF and stops the core. -/

/-- Free values in the listed registers (R355, U3). -/
def Regs.scramble (rs : Regs) (draw : Nat) (which : List Reg) : Regs :=
  which.foldl (fun acc r => acc.set r (Config.freeReg draw r)) rs

/-- raise SoftwareError (R352): XGSWEIF is set; pc and the destination and index registers of the failing instruction
(`which`) hold any value, "every other register and the CCR are as the previous instruction left them" (D9). -/
def softwareError (which : List Reg) (s : State) : State :=
  { s with
    xgsweif := true
    pc := Config.freePc s.draws
    regs := s.regs.scramble s.draws which
    draws := s.draws + 1 }

/-- The record of device accesses after an illegal access at `a`: a word fetch from the Register Space is a device read,
outside the module's own block, whose registers a read does not change; what a misaligned word access makes there is
free (R90); RAM and the Unmapped Address Space hold no device (R93). DESIGN CHOICE, assumption log 40. -/
def illegalRecord (a : Word) (s : State) : List PeriphAccess :=
  if space s.chip a ≠ .register then s.periph
  else if a.getLsbD 0 then Config.misalignedOnBus s.draws a ++ s.periph
  else if (ownOffset s.chip a).isSome then s.periph
  else .read .core .word a :: s.periph

/-- "the access that caused the error is issued on the bus ... it is not suppressed" (R352). -/
def illegalAccess (a : Word) (s : State) : State := { s with periph := illegalRecord a s }

/-- What an access at `a` that did not complete makes of the instruction: a software error after the access, or a
refusal. -/
def stopAt (which : List Reg) (a : Word) (s : State) : Stop → Host.Outcome State Fault Refusal
  | .error _ => .next (softwareError which (illegalAccess a s))
  | .refused r => .refused r

/-! ## Thread start and thread end (R346, R349, R354) -/

/-- `XGVBR[15:1] : 0` (R100). -/
def vectorBase (s : State) : Word := s.xgvbr.extractLsb' 0 16 &&& 0xFFFE

/-- The address of the vector of channel `n`, modulo 2^16 (R101, D16). -/
def vectorAddress (s : State) (n : BitVec 7) : Word := vectorBase s + 4 * n.setWidth 16

/-- The registers a thread starts with: R1 from the vector, the rest undefined (R22, R23). -/
def threadRegs (draw : Nat) (v : Word) : Regs where
  r1 := v
  r2 := Config.freeReg draw .r2
  r3 := Config.freeReg draw .r3
  r4 := Config.freeReg draw .r4
  r5 := Config.freeReg draw .r5
  r6 := Config.freeReg draw .r6
  r7 := Config.freeReg draw .r7

/-- start_thread(n) of R346: XGCHID first (D18), then the two vector fetches. After a failed one pc and R1 are not
defined (R347). The third access, the fetch of the first opcode, belongs to the next step (R394). -/
def startThread (n : BitVec 7) (s : State) : Host.Outcome State Fault Refusal :=
  let s := { s with xgchid := n }
  match vecRead (vectorAddress s n) s with
  | .error e => stopAt [.r1] (vectorAddress s n) s e
  | .ok p =>
    match vecRead (vectorAddress s n + 2) s with
    | .error e => stopAt [.r1] (vectorAddress s n + 2) s e
    | .ok v =>
      .next { s with
        pc := p
        regs := threadRegs s.draws v
        ccr := CCR.ofBits (Config.freeCcr s.draws)
        draws := s.draws + 1 }

/-- terminate_thread() of R354: idle, and no start pending. -/
def terminateThread (s : State) : State := { s with xgchid := 0, startPending := false }

/-- The thread's own end, RTS (R336): idle; pc is not defined after it, the registers and flags stay (U8). -/
def returnToScheduler (s : State) : State :=
  { s with xgchid := 0, pc := Config.freePc s.draws, draws := s.draws + 1 }

/-! ## Debug mode entry (R373 to R378) -/

/-- XGDBG becomes 1; a tag on the opcode that was not executed is spent (R376, assumption log 18). -/
def enterDebug (s : State) : State := { s with xgdbg := true, tagged := false }

/-- request_debug_entry() of R374. -/
def requestDebug (s : State) : State :=
  if s.xgdbg then s
  else if runState s = .running then { s with dbgReq := true }
  else enterDebug s

/-! ## Interrupt flags and semaphores (R322 to R331) -/

/-- The one-bit vector with bit `n` set. -/
def bit128 (n : BitVec 7) : BitVec 128 := 1#128 <<< n.toNat

/-- set_flag(n) of R322: only an implemented channel has a flag. -/
def setFlag (n : BitVec 7) (s : State) : State :=
  if s.chip.channels.getLsbD n.toNat then { s with xgif := s.xgif ||| bit128 n } else s

/-- `sem[k]`. -/
def Sems.get (t : Sems) (k : BitVec 3) : SemState :=
  match k.toNat with
  | 0 => t.s0
  | 1 => t.s1
  | 2 => t.s2
  | 3 => t.s3
  | 4 => t.s4
  | 5 => t.s5
  | 6 => t.s6
  | _ => t.s7

/-- `sem[k] <- v`. -/
def Sems.set (t : Sems) (k : BitVec 3) (v : SemState) : Sems :=
  match k.toNat with
  | 0 => { t with s0 := v }
  | 1 => { t with s1 := v }
  | 2 => { t with s2 := v }
  | 3 => { t with s3 := v }
  | 4 => { t with s4 := v }
  | 5 => { t with s5 := v }
  | 6 => { t with s6 := v }
  | _ => { t with s7 := v }

/-- What SSEM makes of a semaphore (R324, R328). -/
def SemState.coreLock : SemState → SemState
  | .unlocked => .lockedXG
  | .lockedXG => .lockedXG
  | .lockedCPU => .lockedCPU

/-- What CSEM makes of a semaphore (R326, R328). -/
def SemState.coreUnlock : SemState → SemState
  | .unlocked => .unlocked
  | .lockedXG => .unlocked
  | .lockedCPU => .lockedCPU

/-- What the host's write of `bit` to XGSEM with the mask bit set makes of a semaphore (R54, R388). -/
def SemState.hostWrite (bit : Bool) (t : SemState) : SemState :=
  match bit, t with
  | true, .unlocked => .lockedCPU
  | false, .lockedCPU => .unlocked
  | _, t => t

/-- SSEM on semaphore `k` (R324): the attempt, then C tells whether the core holds it. -/
def setSemaphore (k : BitVec 3) (s : State) : State :=
  let t := (s.sem.get k).coreLock
  { s with sem := s.sem.set k t, ccr := { s.ccr with c := decide (t = .lockedXG) } }

/-- CSEM on semaphore `k` (R326). -/
def clearSemaphore (k : BitVec 3) (s : State) : State :=
  { s with sem := s.sem.set k (s.sem.get k).coreUnlock }

end Sys2Proof.Machine
end

