-- ==== Sys2Proof/Machine/Operands.lean ====
section
/-! DEFINITION. The operand forms: the four addressing modes (R161 to R164), branch targets (R255, R273), shift and rotate
counts (R281, R294), the field descriptor (R311), and which registers an instruction may leave unspecified when it
fails (R355). -/

namespace Sys2Proof.Machine

/-! ## Addressing modes -/

/-- IDO5: `x[RB] + zext_16(OFFS5)`, modulo 2^16 (R161). -/
def eaOffset (s : State) (rb : Reg) (off : BitVec 5) : Word := s.reg rb + off.setWidth 16

/-- IDR, and the other two register-offset modes at their moment of access: `x[RB] + x[RI]`, modulo 2^16 (R162 to
R164). -/
def eaIndexed (s : State) (rb ri : Reg) : Word := s.reg rb + s.reg ri

/-- `x[RI] <- x[RI] + size` of IDR+ (R163); "R0+ is equivalent to R0" (R175). -/
def postIncrement (w : Width) (ri : Reg) (s : State) : State := s.setReg ri (s.reg ri + accessSize w)

/-- `x[RI] <- x[RI] - size` of -IDR (R164); "-R0 is equivalent to R0" (R175). -/
def preDecrement (w : Width) (ri : Reg) (s : State) : State := s.setReg ri (s.reg ri - accessSize w)

/-! ## Branch targets -/

/-- `pc + 2 + (sext_16(REL9) << 1)` (R255). -/
def target9 (pc : Word) (rel : BitVec 9) : Word := pc + 2 + (rel.signExtend 16 <<< 1)

/-- `pc + 2 + (sext_16(REL10) << 1)` (R273). -/
def target10 (pc : Word) (rel : BitVec 10) : Word := pc + 2 + (rel.signExtend 16 <<< 1)

/-! ## Shift counts -/

/-- The count of an immediate shift, 1 to 16: "n is considered to be 16" for IMM4 = 0 (R281). -/
def immCount (k : BitVec 4) : Nat := if k = 0 then 16 else k.toNat

/-- The count of a register shift, 0 to 16: 16 "if the content of RS is greater than 15" (R281). -/
def regCount (v : Word) : Nat := if 15 < v.toNat then 16 else v.toNat

/-- The count of a register rotate: "RS[3:0]. All other bits in RS are ignored" (R294). -/
def rotateCount (v : Word) : Nat := (v.extractLsb' 0 4).toNat

/-! ## The field descriptor (R311) -/

/-- `o`, the position of the field's lowest bit. -/
def fieldOffset (d : Word) : Nat := (d.extractLsb' 0 4).toNat

/-- `w`, the width code: the field has w + 1 bits. -/
def fieldWidth (d : Word) : Nat := (d.extractLsb' 4 4).toNat

/-- `m`, w + 1 ones. -/
def fieldOnes (d : Word) : Word := BitVec.ofNat 16 (2 ^ (fieldWidth d + 1) - 1)

/-- `fm`, the field's bits inside a word; bits above 15 do not exist. -/
def fieldMask (d : Word) : Word := fieldOnes d <<< fieldOffset d

/-! ## Destination and index registers -/

/-- The destination and index registers of an instruction: the ones that hold any value after it raised a software error
(R355, D9), at $FFFE for every instruction (R410, D10). -/
def resultRegs : Instr → List Reg
  | .sex rd | .jal rd | .tfrFromCcr rd | .bffo rd _ | .asrReg rd _ | .cslReg rd _ | .csrReg rd _ | .lslReg rd _
  | .lsrReg rd _ | .rolReg rd _ | .rorReg rd _ | .asrImm rd _ | .cslImm rd _ | .csrImm rd _ | .lslImm rd _
  | .lsrImm rd _ | .rolImm rd _ | .rorImm rd _ | .and rd _ _ | .or rd _ _ | .xnor rd _ _ | .sub rd _ _ | .sbc rd _ _
  | .add rd _ _ | .adc rd _ _ | .bfext rd _ _ | .bfins rd _ _ | .bfinsi rd _ _ | .bfinsx rd _ _ | .andl rd _
  | .andh rd _ | .orl rd _ | .orh rd _ | .xnorl rd _ | .xnorh rd _ | .subl rd _ | .subh rd _ | .addl rd _ | .addh rd _
  | .ldl rd _ | .ldh rd _ | .ldbOff rd _ _ | .ldwOff rd _ _ => [rd]
  | .ldbIdx rd _ ri | .ldwIdx rd _ ri | .ldbInc rd _ ri | .ldwInc rd _ ri | .ldbDec rd _ ri | .ldwDec rd _ ri =>
    [rd, ri]
  | .stbIdx _ _ ri | .stwIdx _ _ ri | .stbInc _ _ ri | .stwInc _ _ ri | .stbDec _ _ ri | .stwDec _ _ ri => [ri]
  | .brk | .nop | .rts | .sif | .csemImm _ | .csemReg _ | .ssemImm _ | .ssemReg _ | .par _ | .sifReg _ | .tfrToCcr _
  | .bcc _ | .bcs _ | .bne _ | .beq _ | .bpl _ | .bmi _ | .bvc _ | .bvs _ | .bhi _ | .bls _ | .bge _ | .blt _ | .bgt _
  | .ble _ | .bra _ | .stbOff _ _ _ | .stwOff _ _ _ | .bitl _ _ | .bith _ _ | .cmpl _ _ | .cpch _ _ => []

end Sys2Proof.Machine
end

