-- ==== Sys2Proof/Machine/Flags.lean ====
section
/-! DEFINITION. The flag computations (R191 to R193, R220, R282, R294, R313) and the bit operations whose results they
describe: shifts with a fill, rotates, find first one, parity, insertion of a field. -/

namespace Sys2Proof.Machine

/-! ## Addition and subtraction -/

/-- AddFlags(a, b, r) of R191. -/
def addFlags {w : Nat} (a b r : BitVec w) : CCR where
  n := r.msb
  z := decide (r = 0#w)
  v := (a.msb && b.msb && !r.msb) || (!a.msb && !b.msb && r.msb)
  c := (a.msb && b.msb) || (a.msb && !r.msb) || (b.msb && !r.msb)

/-- SubFlags(a, b, r) of R192, at 8 bits for CMPL and CPCH (R208, R209). -/
def subFlags {w : Nat} (a b r : BitVec w) : CCR where
  n := r.msb
  z := decide (r = 0#w)
  v := (a.msb && !b.msb && !r.msb) || (!a.msb && b.msb && r.msb)
  c := (!a.msb && b.msb) || (!a.msb && r.msb) || (b.msb && r.msb)

/-- "The Zero Flag is also carried forward from the previous operation" (R193). -/
def carryZero (old f : CCR) : CCR := { f with z := f.z && old.z }

/-- A flag as the number it adds. -/
def carryIn {w : Nat} (c : Bool) : BitVec w := (BitVec.ofBool c).setWidth w

/-! ## Logic -/

/-- N and Z of the result, V cleared, C kept (R220, R294, R313). -/
def logicFlags {w : Nat} (r : BitVec w) (old : CCR) : CCR where
  n := r.msb
  z := decide (r = 0#w)
  v := false
  c := old.c

/-- Whether the number of ones among the low `k` bits is odd. -/
def parityBelow : Nat → Word → Bool
  | 0, _ => false
  | k + 1, v => v.getLsbD k ^^ parityBelow k v

/-- The position of the highest one among the low `k` bits (R300). -/
def firstOneBelow : Nat → Word → Option Nat
  | 0, _ => none
  | k + 1, v => if v.getLsbD k then some k else firstOneBelow k v

/-! ## Shifts and rotates (R282, R295, R297, R299) -/

/-- `((v << n) | fill_low) mod 2^16` (R282): the fill bits enter at the low end (R299). -/
def shiftLeftFill (v : Word) (n : Nat) (fill : Bool) : Word :=
  (v <<< n) ||| (if fill then BitVec.ofNat 16 (2 ^ n - 1) else 0)

/-- `(v >> n) | fill_high` (R282): the fill bits enter at the high end (R299). -/
def shiftRightFill (v : Word) (n : Nat) (fill : Bool) : Word :=
  (v >>> n) ||| (if fill then 0xFFFF#16 <<< (16 - n) else 0)

/-- `if n > 0 then C <- v[16 - n]` (R282): the last bit shifted out at the high end (R299). -/
def carryLeft (v : Word) (n : Nat) (c : Bool) : Bool := if n = 0 then c else v.getLsbD (16 - n)

/-- `if n > 0 then C <- v[n - 1]` (R282): the last bit shifted out at the low end (R299). -/
def carryRight (v : Word) (n : Nat) (c : Bool) : Bool := if n = 0 then c else v.getLsbD (n - 1)

/-- N, Z and V = v[15] ^ r[15] (R282). -/
def shiftFlags (v r : Word) (c : Bool) : CCR where
  n := r.msb
  z := decide (r = 0#16)
  v := v.msb ^^ r.msb
  c := c

/-- `((v << n) | (v >> (16 - n))) mod 2^16` (R295). -/
def rotateLeft (v : Word) (n : Nat) : Word := (v <<< n) ||| (v >>> (16 - n))

/-- `((v >> n) | (v << (16 - n))) mod 2^16` (R297). -/
def rotateRight (v : Word) (n : Nat) : Word := (v >>> n) ||| (v <<< (16 - n))

/-! ## Bit fields -/

/-- `(x[RD] & ~fm) | ((f << o) & fm)` (R315 to R317). -/
def insertField (old f d : Word) : Word :=
  (old &&& ~~~fieldMask d) ||| ((f <<< fieldOffset d) &&& fieldMask d)

end Sys2Proof.Machine
end

