-- ==== Sys2Proof/Machine/Arith.lean ====
section
/-! DEFINITION. Arithmetic (41_arith.md). CMP, CPC, NEG and TST are words of SUB and SBC (R199 to R202). -/

namespace Sys2Proof.Machine

/-- ADD RD,RS1,RS2 (R195) -/
def execAdd (rd rs1 rs2 : Reg) (s : State) : Host.Outcome State Fault Refusal :=
  let r := s.reg rs1 + s.reg rs2
  .next (s.writeResult rd r (addFlags (s.reg rs1) (s.reg rs2) r))

/-- ADC RD,RS1,RS2 (R196) -/
def execAdc (rd rs1 rs2 : Reg) (s : State) : Host.Outcome State Fault Refusal :=
  let r := s.reg rs1 + s.reg rs2 + carryIn s.ccr.c
  .next (s.writeResult rd r (carryZero s.ccr (addFlags (s.reg rs1) (s.reg rs2) r)))

/-- SUB RD,RS1,RS2 (R197) -/
def execSub (rd rs1 rs2 : Reg) (s : State) : Host.Outcome State Fault Refusal :=
  let r := s.reg rs1 - s.reg rs2
  .next (s.writeResult rd r (subFlags (s.reg rs1) (s.reg rs2) r))

/-- SBC RD,RS1,RS2 (R198) -/
def execSbc (rd rs1 rs2 : Reg) (s : State) : Host.Outcome State Fault Refusal :=
  let r := s.reg rs1 - s.reg rs2 - carryIn s.ccr.c
  .next (s.writeResult rd r (carryZero s.ccr (subFlags (s.reg rs1) (s.reg rs2) r)))

/-- An immediate addition of the word `b` (R203, R204). -/
def addImmediate (rd : Reg) (b : Word) (s : State) : State :=
  s.writeResult rd (s.reg rd + b) (addFlags (s.reg rd) b (s.reg rd + b))

/-- An immediate subtraction of the word `b` (R205, R206). -/
def subImmediate (rd : Reg) (b : Word) (s : State) : State :=
  s.writeResult rd (s.reg rd - b) (subFlags (s.reg rd) b (s.reg rd - b))

/-- ADDL RD,#IMM8 (R203): "a full 16-bit addition" of `$00:IMM8` (D11). -/
def execAddl (rd : Reg) (k : Byte) (s : State) : Host.Outcome State Fault Refusal :=
  .next (addImmediate rd (joinBytes 0 k) s)

/-- ADDH RD,#IMM8 (R204): the addition of `IMM8:$00`. -/
def execAddh (rd : Reg) (k : Byte) (s : State) : Host.Outcome State Fault Refusal :=
  .next (addImmediate rd (joinBytes k 0) s)

/-- SUBL RD,#IMM8 (R205) -/
def execSubl (rd : Reg) (k : Byte) (s : State) : Host.Outcome State Fault Refusal :=
  .next (subImmediate rd (joinBytes 0 k) s)

/-- SUBH RD,#IMM8 (R206) -/
def execSubh (rd : Reg) (k : Byte) (s : State) : Host.Outcome State Fault Refusal :=
  .next (subImmediate rd (joinBytes k 0) s)

/-- CMPL RS,#IMM8 (R208): "only condition code flags get updated". -/
def execCmpl (rs : Reg) (k : Byte) (s : State) : Host.Outcome State Fault Refusal :=
  let a := lowByte (s.reg rs)
  .next (s.setCcr (subFlags a k (a - k))).advance

/-- CPCH RS,#IMM8 (R209): "The carry bit and Zero bits are taken into account". -/
def execCpch (rs : Reg) (k : Byte) (s : State) : Host.Outcome State Fault Refusal :=
  let a := highByte (s.reg rs)
  .next (s.setCcr (carryZero s.ccr (subFlags a k (a - k - carryIn s.ccr.c)))).advance

end Sys2Proof.Machine
end

