-- ==== Sys2Proof/Machine/BitField.lean ====
section
/-! DEFINITION. The bit-field instructions (46_bitfield.md). -/

namespace Sys2Proof.Machine

/-- The whole word written and its flags (R313). -/
def fieldResult (rd : Reg) (r : Word) (s : State) : State := s.writeResult rd r (logicFlags r s.ccr)

/-- BFEXT RD,RS1,RS2 (R314): `(x[RS1] >> o) & m`. -/
def execBfext (rd rs1 rs2 : Reg) (s : State) : Host.Outcome State Fault Refusal :=
  let d := s.reg rs2
  .next (fieldResult rd ((s.reg rs1 >>> fieldOffset d) &&& fieldOnes d) s)

/-- BFINS RD,RS1,RS2 (R315) -/
def execBfins (rd rs1 rs2 : Reg) (s : State) : Host.Outcome State Fault Refusal :=
  let d := s.reg rs2
  .next (fieldResult rd (insertField (s.reg rd) (s.reg rs1 &&& fieldOnes d) d) s)

/-- BFINSI RD,RS1,RS2 (R316): the field is inverted. -/
def execBfinsi (rd rs1 rs2 : Reg) (s : State) : Host.Outcome State Fault Refusal :=
  let d := s.reg rs2
  .next (fieldResult rd (insertField (s.reg rd) (~~~(s.reg rs1) &&& fieldOnes d) d) s)

/-- BFINSX RD,RS1,RS2 (R317): an XNOR with the field of RD. -/
def execBfinsx (rd rs1 rs2 : Reg) (s : State) : Host.Outcome State Fault Refusal :=
  let d := s.reg rs2
  let f := ~~~((s.reg rs1 &&& fieldOnes d) ^^^ ((s.reg rd >>> fieldOffset d) &&& fieldOnes d)) &&& fieldOnes d
  .next (fieldResult rd (insertField (s.reg rd) f d) s)

end Sys2Proof.Machine
end

