-- ==== Sys2Proof/Machine/Branch.lean ====
section
/-! DEFINITION. Branches and the jump (44_branch.md). BHS and BLO are words of BCC and BCS (R275, R276). -/

namespace Sys2Proof.Machine

/-- The conditional branch of R255: to the target if the condition holds, else to the next instruction. -/
def branchIf (taken : Bool) (rel : BitVec 9) (s : State) : State :=
  s.setPc (if taken then target9 s.pc rel else s.pc + 2)

/-- BCC REL9 (R259) -/
def execBcc (rel : BitVec 9) (s : State) : Host.Outcome State Fault Refusal :=
  .next (branchIf (!s.ccr.c) rel s)

/-- BCS REL9 (R260) -/
def execBcs (rel : BitVec 9) (s : State) : Host.Outcome State Fault Refusal :=
  .next (branchIf (s.ccr.c) rel s)

/-- BNE REL9 (R261) -/
def execBne (rel : BitVec 9) (s : State) : Host.Outcome State Fault Refusal :=
  .next (branchIf (!s.ccr.z) rel s)

/-- BEQ REL9 (R262) -/
def execBeq (rel : BitVec 9) (s : State) : Host.Outcome State Fault Refusal :=
  .next (branchIf (s.ccr.z) rel s)

/-- BPL REL9 (R263) -/
def execBpl (rel : BitVec 9) (s : State) : Host.Outcome State Fault Refusal :=
  .next (branchIf (!s.ccr.n) rel s)

/-- BMI REL9 (R264) -/
def execBmi (rel : BitVec 9) (s : State) : Host.Outcome State Fault Refusal :=
  .next (branchIf (s.ccr.n) rel s)

/-- BVC REL9 (R265) -/
def execBvc (rel : BitVec 9) (s : State) : Host.Outcome State Fault Refusal :=
  .next (branchIf (!s.ccr.v) rel s)

/-- BVS REL9 (R266) -/
def execBvs (rel : BitVec 9) (s : State) : Host.Outcome State Fault Refusal :=
  .next (branchIf (s.ccr.v) rel s)

/-- BHI REL9 (R267) -/
def execBhi (rel : BitVec 9) (s : State) : Host.Outcome State Fault Refusal :=
  .next (branchIf (!(s.ccr.c || s.ccr.z)) rel s)

/-- BLS REL9 (R268) -/
def execBls (rel : BitVec 9) (s : State) : Host.Outcome State Fault Refusal :=
  .next (branchIf (s.ccr.c || s.ccr.z) rel s)

/-- BGE REL9 (R269) -/
def execBge (rel : BitVec 9) (s : State) : Host.Outcome State Fault Refusal :=
  .next (branchIf (!(s.ccr.n ^^ s.ccr.v)) rel s)

/-- BLT REL9 (R270) -/
def execBlt (rel : BitVec 9) (s : State) : Host.Outcome State Fault Refusal :=
  .next (branchIf (s.ccr.n ^^ s.ccr.v) rel s)

/-- BGT REL9 (R271) -/
def execBgt (rel : BitVec 9) (s : State) : Host.Outcome State Fault Refusal :=
  .next (branchIf (!(s.ccr.z || (s.ccr.n ^^ s.ccr.v))) rel s)

/-- BLE REL9 (R274) -/
def execBle (rel : BitVec 9) (s : State) : Host.Outcome State Fault Refusal :=
  .next (branchIf (s.ccr.z || (s.ccr.n ^^ s.ccr.v)) rel s)

/-- BRA REL10 (R273): "Branches always". -/
def execBra (rel : BitVec 10) (s : State) : Host.Outcome State Fault Refusal :=
  .next (s.setPc (target10 s.pc rel))

/-- JAL RD (R272): the jump target is the old value of RD, the link `pc + 2`. -/
def execJal (rd : Reg) (s : State) : Host.Outcome State Fault Refusal :=
  .next ((s.setReg rd (s.pc + 2)).setPc (s.reg rd))

end Sys2Proof.Machine
end

