-- ==== Sys2Proof/Machine/LoadStore.lean ====
section
/-! DEFINITION. Loads and stores (40_load_store.md): one shared load, one shared store, and a meaning for each of the
sixteen forms and for LDL and LDH. No flag is written (R165). -/

namespace Sys2Proof.Machine

/-- A load from `a` into `rd`: the access, then the index update `post`, then the destination (R176: the loaded value
wins). `which` are the registers left unspecified by a failing access (R174). -/
def loadInto (w : Width) (rd : Reg) (a : Word) (which : List Reg) (post : State → State) (s : State) :
    Host.Outcome State Fault Refusal :=
  match memRead w a s with
  | .ok (v, t) => .next ((post t).setReg rd v).advance
  | .error e => stopAt which a s e

/-- A store of `v` to `a`, then the index update `post`. -/
def storeAt (w : Width) (v : Word) (a : Word) (which : List Reg) (post : State → State) (s : State) :
    Host.Outcome State Fault Refusal :=
  match memWrite w a v s with
  | .ok t => .next (post t).advance
  | .error e => stopAt which a s e

/-- The pre-decrement load: refused for RI = RB other than R0 (R178), else the decrement and the load (R164, R176). -/
def loadDec (w : Width) (rd rb ri : Reg) (s : State) : Host.Outcome State Fault Refusal :=
  if rb.mayPreDecrement ri then
    let t := preDecrement w ri s
    loadInto w rd (eaIndexed t rb ri) [rd, ri] id t
  else .refused .preDecrementOfBase

/-- The pre-decrement store: "the unmodified content of the source register is written" (R177). -/
def storeDec (w : Width) (rs rb ri : Reg) (s : State) : Host.Outcome State Fault Refusal :=
  if rb.mayPreDecrement ri then
    let t := preDecrement w ri s
    storeAt w (s.reg rs) (eaIndexed t rb ri) [ri] id t
  else .refused .preDecrementOfBase

/-- LDB RD,(RB,#OFFS5) (R166) -/
def execLdbOff (rd rb : Reg) (off : BitVec 5) (s : State) : Host.Outcome State Fault Refusal :=
  loadInto .byte rd (eaOffset s rb off) [rd] id s

/-- LDB RD,(RB,RI) (R167) -/
def execLdbIdx (rd rb ri : Reg) (s : State) : Host.Outcome State Fault Refusal :=
  loadInto .byte rd (eaIndexed s rb ri) [rd, ri] id s

/-- LDB RD,(RB,RI+) (R168) -/
def execLdbInc (rd rb ri : Reg) (s : State) : Host.Outcome State Fault Refusal :=
  loadInto .byte rd (eaIndexed s rb ri) [rd, ri] (postIncrement .byte ri) s

/-- LDB RD,(RB,-RI) (R169) -/
def execLdbDec (rd rb ri : Reg) (s : State) : Host.Outcome State Fault Refusal := loadDec .byte rd rb ri s

/-- LDW RD,(RB,#OFFS5) (R170) -/
def execLdwOff (rd rb : Reg) (off : BitVec 5) (s : State) : Host.Outcome State Fault Refusal :=
  loadInto .word rd (eaOffset s rb off) [rd] id s

/-- LDW RD,(RB,RI) (R171) -/
def execLdwIdx (rd rb ri : Reg) (s : State) : Host.Outcome State Fault Refusal :=
  loadInto .word rd (eaIndexed s rb ri) [rd, ri] id s

/-- LDW RD,(RB,RI+) (R172) -/
def execLdwInc (rd rb ri : Reg) (s : State) : Host.Outcome State Fault Refusal :=
  loadInto .word rd (eaIndexed s rb ri) [rd, ri] (postIncrement .word ri) s

/-- LDW RD,(RB,-RI) (R173) -/
def execLdwDec (rd rb ri : Reg) (s : State) : Host.Outcome State Fault Refusal := loadDec .word rd rb ri s

/-- STB RS,(RB,#OFFS5) (R182) -/
def execStbOff (rs rb : Reg) (off : BitVec 5) (s : State) : Host.Outcome State Fault Refusal :=
  storeAt .byte (s.reg rs) (eaOffset s rb off) [] id s

/-- STB RS,(RB,RI) (R183) -/
def execStbIdx (rs rb ri : Reg) (s : State) : Host.Outcome State Fault Refusal :=
  storeAt .byte (s.reg rs) (eaIndexed s rb ri) [ri] id s

/-- STB RS,(RB,RI+) (R184) -/
def execStbInc (rs rb ri : Reg) (s : State) : Host.Outcome State Fault Refusal :=
  storeAt .byte (s.reg rs) (eaIndexed s rb ri) [ri] (postIncrement .byte ri) s

/-- STB RS,(RB,-RI) (R185) -/
def execStbDec (rs rb ri : Reg) (s : State) : Host.Outcome State Fault Refusal := storeDec .byte rs rb ri s

/-- STW RS,(RB,#OFFS5) (R186) -/
def execStwOff (rs rb : Reg) (off : BitVec 5) (s : State) : Host.Outcome State Fault Refusal :=
  storeAt .word (s.reg rs) (eaOffset s rb off) [] id s

/-- STW RS,(RB,RI) (R187) -/
def execStwIdx (rs rb ri : Reg) (s : State) : Host.Outcome State Fault Refusal :=
  storeAt .word (s.reg rs) (eaIndexed s rb ri) [ri] id s

/-- STW RS,(RB,RI+) (R188) -/
def execStwInc (rs rb ri : Reg) (s : State) : Host.Outcome State Fault Refusal :=
  storeAt .word (s.reg rs) (eaIndexed s rb ri) [ri] (postIncrement .word ri) s

/-- STW RS,(RB,-RI) (R189) -/
def execStwDec (rs rb ri : Reg) (s : State) : Host.Outcome State Fault Refusal := storeDec .word rs rb ri s

/-- LDL RD,#IMM8 (R180): "The high byte is cleared." -/
def execLdl (rd : Reg) (k : Byte) (s : State) : Host.Outcome State Fault Refusal :=
  .next (s.setReg rd (k.setWidth 16)).advance

/-- LDH RD,#IMM8 (R181): "The low byte is not affected." -/
def execLdh (rd : Reg) (k : Byte) (s : State) : Host.Outcome State Fault Refusal :=
  .next (s.setReg rd (joinBytes k (lowByte (s.reg rd)))).advance

end Sys2Proof.Machine
end

