-- ==== Sys2Proof/Machine/Logic.lean ====
section
/-! DEFINITION. Logic, sign extension and parity (42_logic.md). MOV and COM are words of OR and XNOR (R226, R227). -/

namespace Sys2Proof.Machine

/-- The result of a 16-bit logic operation and its flags (R220). -/
def logicWord (rd : Reg) (r : Word) (s : State) : State := s.writeResult rd r (logicFlags r s.ccr)

/-- A logic operation on the low byte: "The high byte of RD is not affected", the flags are those of the byte (R220). -/
def logicLow (rd : Reg) (b : Byte) (s : State) : State :=
  s.writeResult rd (joinBytes (highByte (s.reg rd)) b) (logicFlags b s.ccr)

/-- A logic operation on the high byte: "The low byte of RD is not affected", the flags are those of the byte (R220). -/
def logicHigh (rd : Reg) (b : Byte) (s : State) : State :=
  s.writeResult rd (joinBytes b (lowByte (s.reg rd))) (logicFlags b s.ccr)

/-- AND RD,RS1,RS2 (R222) -/
def execAnd (rd rs1 rs2 : Reg) (s : State) : Host.Outcome State Fault Refusal :=
  .next (logicWord rd (s.reg rs1 &&& s.reg rs2) s)

/-- OR RD,RS1,RS2 (R223) -/
def execOr (rd rs1 rs2 : Reg) (s : State) : Host.Outcome State Fault Refusal :=
  .next (logicWord rd (s.reg rs1 ||| s.reg rs2) s)

/-- XNOR RD,RS1,RS2 (R224) -/
def execXnor (rd rs1 rs2 : Reg) (s : State) : Host.Outcome State Fault Refusal :=
  .next (logicWord rd (~~~(s.reg rs1 ^^^ s.reg rs2)) s)

/-- ANDL RD,#IMM8 (R230) -/
def execAndl (rd : Reg) (k : Byte) (s : State) : Host.Outcome State Fault Refusal :=
  .next (logicLow rd (lowByte (s.reg rd) &&& k) s)

/-- ANDH RD,#IMM8 (R231) -/
def execAndh (rd : Reg) (k : Byte) (s : State) : Host.Outcome State Fault Refusal :=
  .next (logicHigh rd (highByte (s.reg rd) &&& k) s)

/-- BITL RD,#IMM8 (R232): "no result is written back". -/
def execBitl (rd : Reg) (k : Byte) (s : State) : Host.Outcome State Fault Refusal :=
  .next (s.setCcr (logicFlags (lowByte (s.reg rd) &&& k) s.ccr)).advance

/-- BITH RD,#IMM8 (R233) -/
def execBith (rd : Reg) (k : Byte) (s : State) : Host.Outcome State Fault Refusal :=
  .next (s.setCcr (logicFlags (highByte (s.reg rd) &&& k) s.ccr)).advance

/-- ORL RD,#IMM8 (R234) -/
def execOrl (rd : Reg) (k : Byte) (s : State) : Host.Outcome State Fault Refusal :=
  .next (logicLow rd (lowByte (s.reg rd) ||| k) s)

/-- ORH RD,#IMM8 (R235) -/
def execOrh (rd : Reg) (k : Byte) (s : State) : Host.Outcome State Fault Refusal :=
  .next (logicHigh rd (highByte (s.reg rd) ||| k) s)

/-- XNORL RD,#IMM8 (R236) -/
def execXnorl (rd : Reg) (k : Byte) (s : State) : Host.Outcome State Fault Refusal :=
  .next (logicLow rd (~~~(lowByte (s.reg rd) ^^^ k)) s)

/-- XNORH RD,#IMM8 (R237) -/
def execXnorh (rd : Reg) (k : Byte) (s : State) : Host.Outcome State Fault Refusal :=
  .next (logicHigh rd (~~~(highByte (s.reg rd) ^^^ k)) s)

/-- SEX RD (R244) -/
def execSex (rd : Reg) (s : State) : Host.Outcome State Fault Refusal :=
  .next (logicWord rd ((lowByte (s.reg rd)).signExtend 16) s)

/-- PAR RD (R245): RD is not written, all four flags are. -/
def execPar (rd : Reg) (s : State) : Host.Outcome State Fault Refusal :=
  .next (s.setCcr { n := false, z := decide (s.reg rd = 0), v := false, c := parityBelow 16 (s.reg rd) }).advance

end Sys2Proof.Machine
end

