-- ==== Sys2Proof/Machine/Shift.lean ====
section
/-! DEFINITION. Shifts, rotates and find first one (45_shift.md). -/

namespace Sys2Proof.Machine

/-- A left shift by `n` with the fill bit (R282). -/
def shiftLeft (fill : Bool) (rd : Reg) (n : Nat) (s : State) : State :=
  let v := s.reg rd
  let r := shiftLeftFill v n fill
  s.writeResult rd r (shiftFlags v r (carryLeft v n s.ccr.c))

/-- A right shift by `n` with the fill bit (R282). -/
def shiftRight (fill : Bool) (rd : Reg) (n : Nat) (s : State) : State :=
  let v := s.reg rd
  let r := shiftRightFill v n fill
  s.writeResult rd r (shiftFlags v r (carryRight v n s.ccr.c))

/-- The result of a rotate and its flags: V cleared, C kept (R294). -/
def rotated (rd : Reg) (r : Word) (s : State) : State := s.writeResult rd r (logicFlags r s.ccr)

/-- ASR RD,#IMM4 (R284) -/
def execAsrImm (rd : Reg) (k : BitVec 4) (s : State) : Host.Outcome State Fault Refusal :=
  .next (shiftRight (s.reg rd).msb rd (immCount k) s)

/-- ASR RD,RS (R285) -/
def execAsrReg (rd rs : Reg) (s : State) : Host.Outcome State Fault Refusal :=
  .next (shiftRight (s.reg rd).msb rd (regCount (s.reg rs)) s)

/-- CSL RD,#IMM4 (R286) -/
def execCslImm (rd : Reg) (k : BitVec 4) (s : State) : Host.Outcome State Fault Refusal :=
  .next (shiftLeft s.ccr.c rd (immCount k) s)

/-- CSL RD,RS (R287) -/
def execCslReg (rd rs : Reg) (s : State) : Host.Outcome State Fault Refusal :=
  .next (shiftLeft s.ccr.c rd (regCount (s.reg rs)) s)

/-- CSR RD,#IMM4 (R288) -/
def execCsrImm (rd : Reg) (k : BitVec 4) (s : State) : Host.Outcome State Fault Refusal :=
  .next (shiftRight s.ccr.c rd (immCount k) s)

/-- CSR RD,RS (R289) -/
def execCsrReg (rd rs : Reg) (s : State) : Host.Outcome State Fault Refusal :=
  .next (shiftRight s.ccr.c rd (regCount (s.reg rs)) s)

/-- LSL RD,#IMM4 (R290) -/
def execLslImm (rd : Reg) (k : BitVec 4) (s : State) : Host.Outcome State Fault Refusal :=
  .next (shiftLeft false rd (immCount k) s)

/-- LSL RD,RS (R291) -/
def execLslReg (rd rs : Reg) (s : State) : Host.Outcome State Fault Refusal :=
  .next (shiftLeft false rd (regCount (s.reg rs)) s)

/-- LSR RD,#IMM4 (R292) -/
def execLsrImm (rd : Reg) (k : BitVec 4) (s : State) : Host.Outcome State Fault Refusal :=
  .next (shiftRight false rd (immCount k) s)

/-- LSR RD,RS (R293) -/
def execLsrReg (rd rs : Reg) (s : State) : Host.Outcome State Fault Refusal :=
  .next (shiftRight false rd (regCount (s.reg rs)) s)

/-- ROL RD,#IMM4 (R295) -/
def execRolImm (rd : Reg) (k : BitVec 4) (s : State) : Host.Outcome State Fault Refusal :=
  .next (rotated rd (rotateLeft (s.reg rd) k.toNat) s)

/-- ROL RD,RS (R296) -/
def execRolReg (rd rs : Reg) (s : State) : Host.Outcome State Fault Refusal :=
  .next (rotated rd (rotateLeft (s.reg rd) (rotateCount (s.reg rs))) s)

/-- ROR RD,#IMM4 (R297) -/
def execRorImm (rd : Reg) (k : BitVec 4) (s : State) : Host.Outcome State Fault Refusal :=
  .next (rotated rd (rotateRight (s.reg rd) k.toNat) s)

/-- ROR RD,RS (R298) -/
def execRorReg (rd rs : Reg) (s : State) : Host.Outcome State Fault Refusal :=
  .next (rotated rd (rotateRight (s.reg rd) (rotateCount (s.reg rs))) s)

/-- BFFO RD,RS (R300): RD gets the position of the first one, or 0 with C set where there is none. -/
def execBffo (rd rs : Reg) (s : State) : Host.Outcome State Fault Refusal :=
  let p := firstOneBelow 16 (s.reg rs)
  let r : Word := BitVec.ofNat 16 (p.getD 0)
  .next (s.writeResult rd r { n := false, z := decide (r = 0), v := false, c := p.isNone })

end Sys2Proof.Machine
end

