-- ==== Sys2Proof/Machine/Special.lean ====
section
/-! DEFINITION. The special instructions (47_special.md). -/

namespace Sys2Proof.Machine

/-- BRK (R334): debug mode and a Software Breakpoint Request; "the program counter will point to the BRK instruction". -/
def execBrk (s : State) : Host.Outcome State Fault Refusal :=
  .next { s with xgdbg := true, breakReqs := s.breakReqs + 1 }

/-- NOP (R332) -/
def execNop (s : State) : Host.Outcome State Fault Refusal := .next s.advance

/-- RTS (R336) -/
def execRts (s : State) : Host.Outcome State Fault Refusal := .next (returnToScheduler s)

/-- SIF (R320): "the interrupt flag of the current channel (XGCHID) will be set". -/
def execSif (s : State) : Host.Outcome State Fault Refusal := .next (setFlag s.xgchid s).advance

/-- SIF RS (R321): "The content of RS[15:7] is ignored." -/
def execSifReg (rs : Reg) (s : State) : Host.Outcome State Fault Refusal :=
  .next (setFlag ((s.reg rs).extractLsb' 0 7) s).advance

/-- SSEM #IMM3 (R324) -/
def execSsemImm (k : BitVec 3) (s : State) : Host.Outcome State Fault Refusal := .next (setSemaphore k s).advance

/-- SSEM RS (R325): "bits RS[2:0] select the semaphore to be set". -/
def execSsemReg (rs : Reg) (s : State) : Host.Outcome State Fault Refusal :=
  .next (setSemaphore ((s.reg rs).extractLsb' 0 3) s).advance

/-- CSEM #IMM3 (R326) -/
def execCsemImm (k : BitVec 3) (s : State) : Host.Outcome State Fault Refusal := .next (clearSemaphore k s).advance

/-- CSEM RS (R327) -/
def execCsemReg (rs : Reg) (s : State) : Host.Outcome State Fault Refusal :=
  .next (clearSemaphore ((s.reg rs).extractLsb' 0 3) s).advance

end Sys2Proof.Machine
end

