-- ==== Sys2Proof/Machine/Transfer.lean ====
section
/-! DEFINITION. The register transfers (43_transfer.md). -/

namespace Sys2Proof.Machine

/-- TFR RD,CCR (R250): "bits RD[15:4] become cleared". -/
def execTfrFromCcr (rd : Reg) (s : State) : Host.Outcome State Fault Refusal :=
  .next (s.setReg rd (s.ccr.bits.setWidth 16)).advance

/-- TFR CCR,RS (R251): "only bits RS[3:0] are copied". -/
def execTfrToCcr (rs : Reg) (s : State) : Host.Outcome State Fault Refusal :=
  .next (s.setCcr (CCR.ofBits ((s.reg rs).extractLsb' 0 4))).advance

end Sys2Proof.Machine
end

