-- ==== Sys2Proof/Machine/Dispatch.lean ====
section
/-! DEFINITION. The one dispatch from an instruction to its meaning, in the order of the opcode table. -/

namespace Sys2Proof.Machine

/-- The meaning of an instruction. -/
def exec (i : Instr) (s : State) : Host.Outcome State Fault Refusal :=
  match i with
  | .brk => Sys2Proof.Machine.execBrk s
  | .nop => Sys2Proof.Machine.execNop s
  | .rts => Sys2Proof.Machine.execRts s
  | .sif => Sys2Proof.Machine.execSif s
  | .csemImm k => Sys2Proof.Machine.execCsemImm k s
  | .csemReg rs => Sys2Proof.Machine.execCsemReg rs s
  | .ssemImm k => Sys2Proof.Machine.execSsemImm k s
  | .ssemReg rs => Sys2Proof.Machine.execSsemReg rs s
  | .sex rd => Sys2Proof.Machine.execSex rd s
  | .par rd => Sys2Proof.Machine.execPar rd s
  | .jal rd => Sys2Proof.Machine.execJal rd s
  | .sifReg rs => Sys2Proof.Machine.execSifReg rs s
  | .tfrFromCcr rd => Sys2Proof.Machine.execTfrFromCcr rd s
  | .tfrToCcr rs => Sys2Proof.Machine.execTfrToCcr rs s
  | .bffo rd rs => Sys2Proof.Machine.execBffo rd rs s
  | .asrReg rd rs => Sys2Proof.Machine.execAsrReg rd rs s
  | .cslReg rd rs => Sys2Proof.Machine.execCslReg rd rs s
  | .csrReg rd rs => Sys2Proof.Machine.execCsrReg rd rs s
  | .lslReg rd rs => Sys2Proof.Machine.execLslReg rd rs s
  | .lsrReg rd rs => Sys2Proof.Machine.execLsrReg rd rs s
  | .rolReg rd rs => Sys2Proof.Machine.execRolReg rd rs s
  | .rorReg rd rs => Sys2Proof.Machine.execRorReg rd rs s
  | .asrImm rd n => Sys2Proof.Machine.execAsrImm rd n s
  | .cslImm rd n => Sys2Proof.Machine.execCslImm rd n s
  | .csrImm rd n => Sys2Proof.Machine.execCsrImm rd n s
  | .lslImm rd n => Sys2Proof.Machine.execLslImm rd n s
  | .lsrImm rd n => Sys2Proof.Machine.execLsrImm rd n s
  | .rolImm rd n => Sys2Proof.Machine.execRolImm rd n s
  | .rorImm rd n => Sys2Proof.Machine.execRorImm rd n s
  | .and rd rs1 rs2 => Sys2Proof.Machine.execAnd rd rs1 rs2 s
  | .or rd rs1 rs2 => Sys2Proof.Machine.execOr rd rs1 rs2 s
  | .xnor rd rs1 rs2 => Sys2Proof.Machine.execXnor rd rs1 rs2 s
  | .sub rd rs1 rs2 => Sys2Proof.Machine.execSub rd rs1 rs2 s
  | .sbc rd rs1 rs2 => Sys2Proof.Machine.execSbc rd rs1 rs2 s
  | .add rd rs1 rs2 => Sys2Proof.Machine.execAdd rd rs1 rs2 s
  | .adc rd rs1 rs2 => Sys2Proof.Machine.execAdc rd rs1 rs2 s
  | .bcc rel => Sys2Proof.Machine.execBcc rel s
  | .bcs rel => Sys2Proof.Machine.execBcs rel s
  | .bne rel => Sys2Proof.Machine.execBne rel s
  | .beq rel => Sys2Proof.Machine.execBeq rel s
  | .bpl rel => Sys2Proof.Machine.execBpl rel s
  | .bmi rel => Sys2Proof.Machine.execBmi rel s
  | .bvc rel => Sys2Proof.Machine.execBvc rel s
  | .bvs rel => Sys2Proof.Machine.execBvs rel s
  | .bhi rel => Sys2Proof.Machine.execBhi rel s
  | .bls rel => Sys2Proof.Machine.execBls rel s
  | .bge rel => Sys2Proof.Machine.execBge rel s
  | .blt rel => Sys2Proof.Machine.execBlt rel s
  | .bgt rel => Sys2Proof.Machine.execBgt rel s
  | .ble rel => Sys2Proof.Machine.execBle rel s
  | .bra rel => Sys2Proof.Machine.execBra rel s
  | .ldbOff rd rb off => Sys2Proof.Machine.execLdbOff rd rb off s
  | .ldwOff rd rb off => Sys2Proof.Machine.execLdwOff rd rb off s
  | .stbOff rs rb off => Sys2Proof.Machine.execStbOff rs rb off s
  | .stwOff rs rb off => Sys2Proof.Machine.execStwOff rs rb off s
  | .ldbIdx rd rb ri => Sys2Proof.Machine.execLdbIdx rd rb ri s
  | .ldwIdx rd rb ri => Sys2Proof.Machine.execLdwIdx rd rb ri s
  | .stbIdx rs rb ri => Sys2Proof.Machine.execStbIdx rs rb ri s
  | .stwIdx rs rb ri => Sys2Proof.Machine.execStwIdx rs rb ri s
  | .ldbInc rd rb ri => Sys2Proof.Machine.execLdbInc rd rb ri s
  | .ldwInc rd rb ri => Sys2Proof.Machine.execLdwInc rd rb ri s
  | .stbInc rs rb ri => Sys2Proof.Machine.execStbInc rs rb ri s
  | .stwInc rs rb ri => Sys2Proof.Machine.execStwInc rs rb ri s
  | .ldbDec rd rb ri => Sys2Proof.Machine.execLdbDec rd rb ri s
  | .ldwDec rd rb ri => Sys2Proof.Machine.execLdwDec rd rb ri s
  | .stbDec rs rb ri => Sys2Proof.Machine.execStbDec rs rb ri s
  | .stwDec rs rb ri => Sys2Proof.Machine.execStwDec rs rb ri s
  | .bfext rd rs1 rs2 => Sys2Proof.Machine.execBfext rd rs1 rs2 s
  | .bfins rd rs1 rs2 => Sys2Proof.Machine.execBfins rd rs1 rs2 s
  | .bfinsi rd rs1 rs2 => Sys2Proof.Machine.execBfinsi rd rs1 rs2 s
  | .bfinsx rd rs1 rs2 => Sys2Proof.Machine.execBfinsx rd rs1 rs2 s
  | .andl rd k => Sys2Proof.Machine.execAndl rd k s
  | .andh rd k => Sys2Proof.Machine.execAndh rd k s
  | .bitl rd k => Sys2Proof.Machine.execBitl rd k s
  | .bith rd k => Sys2Proof.Machine.execBith rd k s
  | .orl rd k => Sys2Proof.Machine.execOrl rd k s
  | .orh rd k => Sys2Proof.Machine.execOrh rd k s
  | .xnorl rd k => Sys2Proof.Machine.execXnorl rd k s
  | .xnorh rd k => Sys2Proof.Machine.execXnorh rd k s
  | .subl rd k => Sys2Proof.Machine.execSubl rd k s
  | .subh rd k => Sys2Proof.Machine.execSubh rd k s
  | .cmpl rs k => Sys2Proof.Machine.execCmpl rs k s
  | .cpch rs k => Sys2Proof.Machine.execCpch rs k s
  | .addl rd k => Sys2Proof.Machine.execAddl rd k s
  | .addh rd k => Sys2Proof.Machine.execAddh rd k s
  | .ldl rd k => Sys2Proof.Machine.execLdl rd k s
  | .ldh rd k => Sys2Proof.Machine.execLdh rd k s

end Sys2Proof.Machine
end

