-- ==== Sys2Proof/Machine/Cycle.lean ====
section
/-! DEFINITION. One step of the core (R394): fetch, decode, execute; the requests and the start of a thread (R341 to R345);
debug entry at the end of an instruction (R374); the single step (R380). -/

namespace Sys2Proof.Machine

/-! ## One instruction -/

/-- What the instruction word at $FFFE leaves unspecified (R410, D10): its destination and index registers. -/
def unspecifiedAtTop (w : Word) : List Reg :=
  match decodeWord w with
  | .ok i => resultRegs i
  | .error _ => []

/-- Fetch, the check of the $FFFE hazard, decode, execute, "by its own rule" (R394). At $FFFE the access that causes the
error is the prefetch at $0000 (R410). -/
def executeOne (s : State) : Host.Outcome State Fault Refusal :=
  match fetchWord s.pc s with
  | .error e => stopAt [] s.pc s e
  | .ok w =>
    if s.pc = 0xFFFE then .next (softwareError (unspecifiedAtTop w) (illegalAccess 0x0000 s))
    else
      match decodeWord w with
      | .error _ => .next (softwareError [] s)
      | .ok i => exec i s

/-- "if dbg_req or forced breakpoint pending then xgdbg <- 1; dbg_req <- false" (R394). -/
def finishDebug (s : State) : State :=
  if s.dbgReq then { enterDebug s with dbgReq := false } else s

/-! ## Requests -/

/-- The line of software trigger `k`: `xgswt[k] and (xgie or not SWT_GATED_BY_XGIE)` (R342, D19). -/
def triggerLine (s : State) (k : Nat) : Bool := s.xgswt.getLsbD k && (s.xgie || !s.chip.swtGatedByXgie)

/-- The channels of all eight software triggers. They carry no peripheral's request (R12). -/
def softwareChannels (c : Chip) : BitVec 128 := c.swtCh.foldl (fun m ch => m ||| bit128 ch) 0

/-- The requests of the software triggers that S12X_INT routes to the XGATE (R342). -/
def triggerRequests (s : State) : BitVec 128 :=
  (List.range 8).foldl (fun m k =>
    match s.chip.swtCh[k]? with
    | some ch => if triggerLine s k && s.triggerRoute.getLsbD k then m ||| bit128 ch else m
    | none => m) 0

/-- `req`, a subset of IMPL_CH: the hardware channels' lines and the software channels' (R341, R342). -/
def pendingRequests (s : State) : BitVec 128 :=
  ((s.reqLines &&& ~~~softwareChannels s.chip) ||| triggerRequests s) &&& s.chip.channels

/-- The channels of a set, in rising order. -/
def channelList (m : BitVec 128) : List (BitVec 7) :=
  ((List.range 128).filter (fun n => m.getLsbD n)).map (BitVec.ofNat 7)

/-- select(req): which one of several is taken is a free value (R345, D5). -/
def chooseRequest (s : State) : Option (BitVec 7) :=
  let l := channelList (pendingRequests s)
  match l with
  | [] => none
  | [n] => some n
  | _ => l[Config.selectIndex s.draws (pendingRequests s) % l.length]?

/-! ## One step of the core -/

/-- core_step() of R394. -/
def coreStep (s : State) : Host.Outcome State Fault Refusal :=
  match runState s with
  | .halted | .stopped | .frozen => .next s
  | .idle =>
    if s.xge then
      match chooseRequest s with
      | some n => startThread n s
      | none => .next s
    else .next s
  | .running =>
    if s.tagged then .next (enterDebug s)
    else onNext (executeOne s) finishDebug

/-! ## Leaving debug mode and the single step -/

/-- leave_debug_mode() of R379. -/
def leaveDebug (s : State) : Host.Outcome State Fault Refusal :=
  let s := { s with dbgReq := false }
  if s.xgdbg then
    let s := { s with xgdbg := false }
    if s.startPending then startThread s.xgchid { s with startPending := false } else .next s
  else .next s

/-- single_step() of R380; "tags and dbg_req do not apply to it". -/
def singleStep (s : State) : Host.Outcome State Fault Refusal :=
  if s.xgdbg && !s.xgsweif && !s.chip.secured && s.xgchid != 0 && !s.startPending then executeOne s
  else .next s

/-! ## Placing an instruction where the core fetches -/

/-- Whether the core can fetch and execute an instruction word at `a`: even, in RAM, not protected, not $FFFE. -/
def executable (s : State) (a : Word) : Bool :=
  !a.getLsbD 0 && decide (space s.chip a = .ram) && !accessProtected s.chip .word a && a != 0xFFFE

/-- Where an instruction is placed: at pc if it can execute there, else at $C000 or $FFFC. -/
def fetchAddress (s : State) : Word :=
  if executable s s.pc then s.pc else if executable s 0xC000 then 0xC000 else 0xFFFC

/-- The state in which the next step is the core's, with a thread running and no tag waiting. -/
def readyToRun (s : State) : State :=
  { s with
    env := []
    xgdbg := false
    xgsweif := false
    freezeInput := false
    tagged := false
    xgchid := if s.xgchid = 0 then 0x09 else s.xgchid
    pc := fetchAddress s }

end Sys2Proof.Machine
end

