-- ==== Sys2Proof/Machine/HostPort.lean ====
section
/-! DEFINITION. The module registers as the S12X_CPU reads and writes them (R30 to R59), XGCHID's three operations (R381),
and the outgoing interrupt signals (R362). Offsets are those of R30. -/

namespace Sys2Proof.Machine

/-! ## Views -/

/-- What a read of XGMCTL returns: `xge:xgfrz:0:xgdbg:0:0:xgsweif:xgie` (R40). -/
def xgmctlView (s : State) : Byte :=
  BitVec.ofBool s.xge ++ BitVec.ofBool s.xgfrz ++ 0#1 ++ BitVec.ofBool s.xgdbg ++ 0#2 ++ BitVec.ofBool s.xgsweif
    ++ BitVec.ofBool s.xgie

/-- XGVBR as it reads: bits 31:20 and 0 read 0 (R43). -/
def xgvbrView (s : State) : BitVec 32 := s.xgvbr &&& 0x000FFFFE

/-- XGIF as it reads: "Unimplemented interrupt flags will always read 0" (R46). -/
def xgifView (s : State) : BitVec 128 := s.xgif &&& s.chip.channels

/-- XGSEM[7:0]: bit k is 1 iff semaphore k is locked by the S12X_CPU (R53). -/
def xgsemView (t : Sems) : Byte :=
  BitVec.ofBool (decide (t.s7 = .lockedCPU)) ++ BitVec.ofBool (decide (t.s6 = .lockedCPU))
    ++ BitVec.ofBool (decide (t.s5 = .lockedCPU)) ++ BitVec.ofBool (decide (t.s4 = .lockedCPU))
    ++ BitVec.ofBool (decide (t.s3 = .lockedCPU)) ++ BitVec.ofBool (decide (t.s2 = .lockedCPU))
    ++ BitVec.ofBool (decide (t.s1 = .lockedCPU)) ++ BitVec.ofBool (decide (t.s0 = .lockedCPU))

/-- The general register that the bytes at offsets $22 to $2F belong to (R57). -/
def registerAt (n : Nat) : Reg := Reg.ofBits (BitVec.ofNat 3 (n / 2 - 0x10))

/-- The byte of XGCCR, XGPC or XGR1 to XGR7 at offset `n` (R55 to R57). -/
def coreByte (s : State) (n : Nat) : Byte :=
  if n = 0x1D then s.ccr.bits.setWidth 8
  else
    let w := if n < 0x20 then s.pc else s.reg (registerAt n)
    if n % 2 = 0 then highByte w else lowByte w

/-- Whether an offset belongs to XGCCR, XGPC or XGR1 to XGR7; $20 and $21 are reserved (R30). -/
def isCoreByte (n : Nat) : Bool := decide (0x1D ≤ n) && decide (n ≤ 0x2F) && n != 0x20 && n != 0x21

/-- The byte a read of the offset returns (R30 to R58). -/
def hostByte (s : State) (off : BitVec 6) : Byte :=
  let n := off.toNat
  if n = 0x00 then xgmctlView s
  else if n = 0x02 then s.xgchid.setWidth 8
  else if 0x04 ≤ n ∧ n ≤ 0x07 then (xgvbrView s).extractLsb' (8 * (0x07 - n)) 8
  else if 0x08 ≤ n ∧ n ≤ 0x17 then (xgifView s).extractLsb' (8 * (0x17 - n)) 8
  else if n = 0x19 then s.xgswt
  else if n = 0x1B then xgsemView s.sem
  else if isCoreByte n then
    if s.chip.secured then 0
    else if s.xgdbg then coreByte s n
    else Config.hostReadOpen s.draws off
  else 0

/-! ## Reads -/

/-- The offsets of "the 16-bit registers and words" (R59): every even offset but those of XGMCTL, XGCHID and XGCCR, the
8-bit registers. -/
def isWordOffset (n : Nat) : Bool :=
  n % 2 == 0 && decide (n ≤ 0x38) && n != 0x00 && n != 0x02 && n != 0x1C

/-- A byte read by the host of offset `off` (R59). -/
def hostReadByte (off : BitVec 6) (s : State) : Host.Outcome State Fault Refusal :=
  if off.toNat ≤ 0x39 then
    .next { s with hostData := (hostByte s off).setWidth 16, draws := s.draws + 1 }
  else .refused .hostAccess

/-- A word read by the host of a 16-bit register or word (R59, D24); the byte at the even offset is the upper one (R30). -/
def hostReadWord (off : BitVec 6) (s : State) : Host.Outcome State Fault Refusal :=
  if isWordOffset off.toNat then
    .next { s with hostData := joinBytes (hostByte s off) (hostByte s (off + 1)), draws := s.draws + 1 }
  else .refused .hostAccess

/-! ## Writes -/

/-- The host's write of `v` to XGMCTL, in the order of R40. -/
def writeXgmctl (v : Byte) (s : State) : Host.Outcome State Fault Refusal :=
  let s := { s with xge := v.getLsbD 7, xgfrz := v.getLsbD 6, xgie := v.getLsbD 0 }
  thenDo (if v.getLsbD 5 then (if v.getLsbD 4 then .next (requestDebug s) else leaveDebug s) else .next s) fun s =>
  thenDo (if v.getLsbD s.chip.xgssBit.index then singleStep s else .next s) fun s =>
  .next (if v.getLsbD 1 && s.xgsweif then terminateThread { s with xgsweif := false } else s)

/-- The host's write of `id` to XGCHID (R42, R381): in debug mode a change, a start or a termination. -/
def writeXgchid (id : BitVec 7) (s : State) : State :=
  if s.xgdbg then
    if id != 0 then
      if s.xgchid != 0 then { s with xgchid := id }
      else { s with xgchid := id, startPending := true }
    else if s.xgchid != 0 then terminateThread s
    else s
  else s

/-- The bits of XGVBR that a permitted write changes, by the table of R44; bit 0 and bits 31:20 are unimplemented. No row
exists for 2K or less (U15): such a chip is not well formed. -/
def vbrWritable (c : Chip) : BitVec 32 :=
  if 0x40000 < c.ramSize then 0x0007FFFE
  else if 0x20000 < c.ramSize then 0x0003FFFE
  else if 0x10000 < c.ramSize then 0x0001FFFE
  else if 0x8000 < c.ramSize then 0x0000FFFE
  else if 0x4000 < c.ramSize then 0x00007FFE
  else if 0x2000 < c.ramSize then 0x00003FFE
  else if 0x1000 < c.ramSize then 0x00001FFE
  else 0x00000FFE

/-- The host's write of byte `k` of XGVBR (0 the least significant): "only if the module is disabled (XGE=0) and idle
(XGCHID=$00)" (R44). -/
def writeXgvbr (k : Nat) (v : Byte) (s : State) : State :=
  if !s.xge && s.xgchid == 0 then
    let m := (0xFF#32 <<< (8 * k)) &&& vbrWritable s.chip
    { s with xgvbr := (s.xgvbr &&& ~~~m) ||| ((v.setWidth 32 <<< (8 * k)) &&& m) }
  else s

/-- The host's write of byte `k` of XGIF (0 the least significant): a 1 clears its flag (R47). -/
def writeXgif (k : Nat) (v : Byte) (s : State) : State :=
  { s with xgif := s.xgif &&& ~~~(v.setWidth 128 <<< (8 * k)) }

/-- One semaphore under the host's write of `v` to XGSEM (R54). -/
def semWrite (v : Word) (k : Nat) (t : SemState) : SemState :=
  if v.getLsbD (8 + k) then t.hostWrite (v.getLsbD k) else t

/-- The host's write of `v` to XGSEM (R54). -/
def writeXgsem (v : Word) (t : Sems) : Sems where
  s0 := semWrite v 0 t.s0
  s1 := semWrite v 1 t.s1
  s2 := semWrite v 2 t.s2
  s3 := semWrite v 3 t.s3
  s4 := semWrite v 4 t.s4
  s5 := semWrite v 5 t.s5
  s6 := semWrite v 6 t.s6
  s7 := semWrite v 7 t.s7

/-- A word with the byte at an even (upper) or odd (lower) offset replaced. -/
def replaceByte (w : Word) (n : Nat) (v : Byte) : Word :=
  if n % 2 = 0 then joinBytes v (lowByte w) else joinBytes (highByte w) v

/-- The host's write of a byte of XGCCR, XGPC or XGR1 to XGR7: "in Debug Mode if unsecured" (R58). -/
def writeCoreByte (n : Nat) (v : Byte) (s : State) : State :=
  if s.xgdbg && !s.chip.secured then
    if n = 0x1D then s.setCcr (CCR.ofBits (v.extractLsb' 0 4))
    else if n < 0x20 then s.setPc (replaceByte s.pc n v)
    else s.setReg (registerAt n) (replaceByte (s.reg (registerAt n)) n v)
  else s

/-- A byte write by the host (R59). A byte of XGSWT or XGSEM alone carries no mask with its bits: no effect (R50, U14); a
reserved register has none (R30). -/
def hostWriteByte (off : BitVec 6) (v : Byte) (s : State) : Host.Outcome State Fault Refusal :=
  let n := off.toNat
  if n = 0x00 then writeXgmctl v s
  else if n = 0x02 then .next (writeXgchid (v.setWidth 7) s)
  else if 0x04 ≤ n ∧ n ≤ 0x07 then .next (writeXgvbr (0x07 - n) v s)
  else if 0x08 ≤ n ∧ n ≤ 0x17 then .next (writeXgif (0x17 - n) v s)
  else if isCoreByte n then .next (writeCoreByte n v s)
  else if n ≤ 0x39 then .next s
  else .refused .hostAccess

/-- A word write by the host to a 16-bit register or word (R59, D24). XGSWT and XGSEM take mask and bits together (R50,
R54); elsewhere the two bytes have no effect on each other. -/
def hostWriteWord (off : BitVec 6) (v : Word) (s : State) : Host.Outcome State Fault Refusal :=
  let n := off.toNat
  if isWordOffset n then
    if n = 0x18 then .next { s with xgswt := triggerWrite v s.xgswt }
    else if n = 0x1A then .next { s with sem := writeXgsem v s.sem }
    else thenDo (hostWriteByte off (highByte v) s) (hostWriteByte (off + 1) (lowByte v))
  else .refused .hostAccess

/-! ## Outgoing interrupt signals (R362) -/

/-- `channel_irq[n] = xgif[n] and xgie`, as a vector over the channels. -/
def channelIrq (s : State) : BitVec 128 := if s.xgie then xgifView s else 0

/-- `swtrigger_irq[k]`, towards the S12X_CPU: the trigger's line, where S12X_INT routes it there (R342, R363). -/
def triggerIrq (s : State) (k : Nat) : Bool := triggerLine s k && !s.triggerRoute.getLsbD k

/-- `sw_error_irq = xgsweif and xgie` (R364). -/
def softwareErrorIrq (s : State) : Bool := s.xgsweif && s.xgie

end Sys2Proof.Machine
end

