-- ==== Sys2Proof/Machine/Events.lean ====
section
/-! DEFINITION. The other agents (R392, R393): what each event does, and the next state of the whole machine, in which
`State.env` says who moves. -/

namespace Sys2Proof.Machine

/-! ## The host's memory accesses -/

/-- Whether a global address is RAM: the RAM ends at $0F_FFFF (R103). -/
def isRamAddress (c : Chip) (g : BitVec 20) : Bool := decide (0x100000 - c.ramSize ≤ g.toNat)

/-- The global addresses of the word the core has prefetched: a thread is running, not halted and not stopped, and the word
at pc, which executes next, is in RAM (R109, D15). DESIGN CHOICE (log 10): the spec does not say what is prefetched at an odd
pc, which JAL, an odd vector word or XGPC can leave; it names no program word and its fetch is an error whatever RAM holds
(R97), so no byte counts as prefetched and the host's write is made. -/
def prefetchedAt (s : State) (g : BitVec 20) : Bool :=
  !s.xgdbg && !s.xgsweif && s.xgchid != 0 && !s.pc.getLsbD 0 && decide (space s.chip s.pc = .ram)
    && (g == globalAddress s.chip s.xgvbr s.pc || g == globalAddress s.chip s.xgvbr (s.pc + 1))

/-- A byte written to RAM by the host (R95, R392). -/
def hostRamWriteByte (g : BitVec 20) (v : Byte) (s : State) : Host.Outcome State Fault Refusal :=
  if !isRamAddress s.chip g then .fault .hostAddressNotRam
  else if prefetchedAt s g then .refused .prefetchedWordWritten
  else .next (s.setGlobalByte g v)

/-- An aligned word written to RAM by the host, big-endian (R84, R392). -/
def hostRamWriteWord (g : BitVec 20) (v : Word) (s : State) : Host.Outcome State Fault Refusal :=
  if g.getLsbD 0 then .refused .hostAccess
  else if !isRamAddress s.chip g then .fault .hostAddressNotRam
  else if prefetchedAt s g || prefetchedAt s (g + 1) then .refused .prefetchedWordWritten
  else .next ((s.setGlobalByte g (highByte v)).setGlobalByte (g + 1) (lowByte v))

/-- A byte of RAM read by the host. -/
def hostRamReadByte (g : BitVec 20) (s : State) : Host.Outcome State Fault Refusal :=
  if !isRamAddress s.chip g then .fault .hostAddressNotRam
  else .next { s with hostData := (s.globalByte g).setWidth 16 }

/-- An aligned word of RAM read by the host. -/
def hostRamReadWord (g : BitVec 20) (s : State) : Host.Outcome State Fault Refusal :=
  if g.getLsbD 0 then .refused .hostAccess
  else if !isRamAddress s.chip g then .fault .hostAddressNotRam
  else .next { s with hostData := joinBytes (s.globalByte g) (s.globalByte (g + 1)) }

/-- Whether the host reaches a peripheral at `a`: in the Register Space, outside the module's block, words aligned. -/
def isPeripheral (c : Chip) (w : Width) (a : Word) : Bool :=
  !misaligned w a && decide (space c a = .register) && (ownOffset c a).isNone

/-- A peripheral register written by the host (R392). -/
def hostPeriphWrite (w : Width) (a v : Word) (s : State) : Host.Outcome State Fault Refusal :=
  if isPeripheral s.chip w a then .next (periphWrite .host w a v s) else .refused .hostAccess

/-- A peripheral register read by the host (R392). -/
def hostPeriphRead (w : Width) (a : Word) (s : State) : Host.Outcome State Fault Refusal :=
  if isPeripheral s.chip w a then
    .next { (periphRead .host w a s).2 with hostData := (periphRead .host w a s).1 }
  else .refused .hostAccess

/-! ## Reset (R400) -/

/-- Reset during a run: every register and the indirect state take their reset values, RAM holds any value (R402); the
chip, the inputs and the model's own records stay (assumption log 24). -/
def resetModule (s : State) : State :=
  { State.reset with
    ramEpoch := s.ramEpoch + 1
    reqLines := s.reqLines
    triggerRoute := s.triggerRoute
    freezeInput := s.freezeInput
    env := s.env
    periph := s.periph
    breakReqs := s.breakReqs
    hostData := s.hostData
    draws := s.draws
    chip := s.chip }

/-! ## Events and the machine -/

/-- One event (R392 to R394). -/
def applyEvent (e : Event) (s : State) : Host.Outcome State Fault Refusal :=
  match e with
  | .core => coreStep s
  | .hostWriteByte off v => hostWriteByte off v s
  | .hostWriteWord off v => hostWriteWord off v s
  | .hostReadByte off => hostReadByte off s
  | .hostReadWord off => hostReadWord off s
  | .hostRamWriteByte g v => hostRamWriteByte g v s
  | .hostRamWriteWord g v => hostRamWriteWord g v s
  | .hostRamReadByte g => hostRamReadByte g s
  | .hostRamReadWord g => hostRamReadWord g s
  | .hostPeriphWrite w a v => hostPeriphWrite w a v s
  | .hostPeriphRead w a => hostPeriphRead w a s
  | .request ch on =>
    .next { s with reqLines := if on then s.reqLines ||| bit128 ch else s.reqLines &&& ~~~bit128 ch }
  | .routeTrigger k toXgate =>
    .next { s with
      triggerRoute :=
        if toXgate then s.triggerRoute ||| (1#8 <<< k.toNat) else s.triggerRoute &&& ~~~(1#8 <<< k.toNat) }
  | .freeze on => .next { s with freezeInput := on }
  | .tag => .next (if runState s = .running then { s with tagged := true } else s)
  | .forcedBreakpoint => .next (requestDebug s)
  | .reset => .next (resetModule s)

/-- One step of the machine: the next event of the other agents' list, or, when it is empty, a step of the core. -/
def nextState (s : State) : Host.Outcome State Fault Refusal :=
  match s.env with
  | [] => coreStep s
  | e :: rest => applyEvent e { s with env := rest }

end Sys2Proof.Machine
end

