-- ==== Sys2Proof/Machine/Step.lean ====
section
/-! DEFINITION. The step of the machine, and the state in which a given instruction word is the next to run. -/

namespace Sys2Proof.Machine

/-- One step. -/
def step (s : State) : Host.Outcome State Fault Refusal := nextState s

/-- The state whose next step fetches and runs the instruction whose bits are `w`: a thread is running, only the core
moves, and the word stands in RAM where the core fetches (assumption log 25). -/
def State.withFetchWord (s : State) (nbits w : Nat) : State :=
  (readyToRun s).setRamWord (fetchAddress s) (tableWord nbits w)

end Sys2Proof.Machine
end

