-- ==== Sys2Proof/Safety.lean ====
section
/-! DEFINITION. What claims say: the invariant of the state; what stays the same over an instruction; the flags read as
arithmetic; which accesses complete; the memory instructions as lists of forms. Words of the spec, not of the model. -/

namespace Sys2Proof.Machine

/-! ## The invariant -/

/-- The invariant that every step keeps: RAM is in its canonical form; the chip's parameters are ones the decisions allow;
XGVBR's unimplemented bits are 0 and its read-only bits 1 (R43, R44); XGIF has flags of implemented channels only (R46);
a pending start is one of a halted core with an ID (R381). -/
structure State.Inv (s : State) : Prop where
  ram : Memory.wf s.ram
  chip : s.chip.wellFormed = true
  vbr : s.xgvbr ||| vbrWritable s.chip = 0x000FFFFE
  flags : s.xgif &&& ~~~s.chip.channels = 0
  start : s.startPending = true → s.xgdbg = true ∧ s.xgchid ≠ 0

/-! ## What stays the same -/

/-- Every byte of RAM, by its global address, reads as before. -/
def State.sameRam (s t : State) : Prop := ∀ g : BitVec 20, t.globalByte g = s.globalByte g

/-- Everything but R1 to R7, pc and the flags is as before: the module registers, the semaphores, the inputs, RAM, the
records, the chip. -/
def State.sameModule (s t : State) : Prop := { t with regs := s.regs, pc := s.pc, ccr := s.ccr } = s

/-- What a register holds after `r` was written to it: "A write to R0 is discarded" (R21). -/
def written (rd : Reg) (r : Word) : Word := if rd = .r0 then 0 else r

/-- The effect of an instruction that computes `r` into `rd` with the flags `f`, and its frame. -/
structure State.computed (s t : State) (rd : Reg) (r : Word) (f : CCR) : Prop where
  dest : t.reg rd = written rd r
  others : ∀ q, q ≠ rd → t.reg q = s.reg q
  flags : t.ccr = f
  pc : t.pc = s.pc + 2
  rest : s.sameModule t
  ram : s.sameRam t

/-- The effect of an instruction that writes the flags `f` and no register, and its frame. -/
structure State.tested (s t : State) (f : CCR) : Prop where
  regs : ∀ q, t.reg q = s.reg q
  flags : t.ccr = f
  pc : t.pc = s.pc + 2
  rest : s.sameModule t
  ram : s.sameRam t

/-- What a failing access at `a` leaves in the record of device accesses (R90, R93, R352): an even one in the Register Space
outside the module's block, which only a fetch can be, is one word read; what an odd one makes there is open; elsewhere
no device is reached. -/
structure State.issued (s t : State) (a : Word) : Prop where
  elsewhere : 0x07FF < a.toNat → t.periph = s.periph
  fetch : a.toNat ≤ 0x07FF → a.toNat % 2 = 0 →
    (a.toNat < s.chip.xgateBase.toNat ∨ s.chip.xgateBase.toNat + 0x39 < a.toNat) →
    t.periph = .read .core .word a :: s.periph
  ownBlock : a.toNat % 2 = 0 → s.chip.xgateBase.toNat ≤ a.toNat → a.toNat ≤ s.chip.xgateBase.toNat + 0x39 →
    t.periph = s.periph
  misaligned : a.toNat ≤ 0x07FF → a.toNat % 2 = 1 → ∃ made, t.periph = made ++ s.periph

/-- The effect of a software error whose last access was at `a` (R352, R355): XGSWEIF is set; pc and the registers of
`which` hold any value; the access is issued; all else is as before. -/
structure State.raised (s t : State) (which : List Reg) (a : Word) : Prop where
  flag : t.xgsweif = true
  others : ∀ q, q ∉ which → t.reg q = s.reg q
  flags : t.ccr = s.ccr
  rest : { t with xgsweif := s.xgsweif, regs := s.regs, pc := s.pc, periph := s.periph, draws := s.draws } = s
  bus : s.issued t a
  ram : s.sameRam t

/-- The three bits that every write to XGMCTL writes (R40). -/
def State.withControl (s : State) (v : Byte) : State :=
  { s with xge := v.getLsbD 7, xgfrz := v.getLsbD 6, xgie := v.getLsbD 0 }

/-- The last effect of a write of `v` to XGMCTL (R40, R354): bit 1 clears a flagged error and ends the thread. -/
def clearingError (v : Byte) (o : Host.Outcome State Fault Refusal) : Host.Outcome State Fault Refusal :=
  onNext o fun t =>
    if v.getLsbD 1 && t.xgsweif then { t with xgsweif := false, xgchid := 0, startPending := false } else t

/-! ## Flags as arithmetic -/

/-- `r` is the sum modulo 2^w, N its sign, C the carry out of the top bit, V a sum outside the signed range (R190,
R191). -/
structure SumOf {w : Nat} (a b : BitVec w) (cin : Bool) (r : BitVec w) (f : CCR) : Prop where
  value : r.toNat = (a.toNat + b.toNat + cin.toNat) % 2 ^ w
  sign : f.n = true ↔ r.toInt < 0
  overflow : f.v = true ↔
    a.toInt + b.toInt + cin.toNat < -(2 : Int) ^ (w - 1) ∨ (2 : Int) ^ (w - 1) ≤ a.toInt + b.toInt + cin.toNat
  carry : f.c = true ↔ 2 ^ w ≤ a.toNat + b.toNat + cin.toNat

/-- `r` is the difference modulo 2^w, N its sign, C the borrow, V a difference outside the signed range (R190, R192). -/
structure DifferenceOf {w : Nat} (a b : BitVec w) (cin : Bool) (r : BitVec w) (f : CCR) : Prop where
  value : (r.toNat : Int) = ((a.toNat : Int) - b.toNat - cin.toNat) % 2 ^ w
  sign : f.n = true ↔ r.toInt < 0
  overflow : f.v = true ↔
    a.toInt - b.toInt - cin.toNat < -(2 : Int) ^ (w - 1) ∨ (2 : Int) ^ (w - 1) ≤ a.toInt - b.toInt - cin.toNat
  carry : f.c = true ↔ a.toNat < b.toNat + cin.toNat

/-- N and Z of the result, V cleared, C not affected (R220, R294, R313). -/
structure LogicFlagsOf {w : Nat} (old : CCR) (r : BitVec w) (f : CCR) : Prop where
  sign : f.n = true ↔ r.toInt < 0
  zero : f.z = true ↔ r = 0
  overflow : f.v = false
  carry : f.c = old.c

/-- The flags order `a` against `b` as R258 reads them. -/
structure OrderOf {w : Nat} (a b : BitVec w) (f : CCR) : Prop where
  zero : f.z = true ↔ a = b
  carry : f.c = true ↔ a.toNat < b.toNat
  signed : f.n ≠ f.v ↔ a.toInt < b.toInt

/-- A left shift of `v` by `n` places with the fill bit, and its flags (R282). -/
structure LeftShift (v : Word) (n : Nat) (fill : Bool) (old : CCR) (r : Word) (f : CCR) : Prop where
  low : ∀ i, i < 16 → i < n → r.getLsbD i = fill
  high : ∀ i, i < 16 → n ≤ i → r.getLsbD i = v.getLsbD (i - n)
  sign : f.n = r.getLsbD 15
  zero : f.z = true ↔ r = 0
  overflow : f.v = true ↔ v.getLsbD 15 ≠ r.getLsbD 15
  carry : f.c = if n = 0 then old.c else v.getLsbD (16 - n)

/-- A right shift of `v` by `n` places with the fill bit, and its flags (R282). -/
structure RightShift (v : Word) (n : Nat) (fill : Bool) (old : CCR) (r : Word) (f : CCR) : Prop where
  low : ∀ i, i + n < 16 → r.getLsbD i = v.getLsbD (i + n)
  high : ∀ i, i < 16 → 16 ≤ i + n → r.getLsbD i = fill
  sign : f.n = r.getLsbD 15
  zero : f.z = true ↔ r = 0
  overflow : f.v = true ↔ v.getLsbD 15 ≠ r.getLsbD 15
  carry : f.c = if n = 0 then old.c else v.getLsbD (n - 1)

/-! ## Accesses -/

/-- The bytes of an access. -/
def touched (w : Width) (a : Word) : List Word :=
  match w with
  | .byte => [a]
  | .word => [a, a + 1]

/-- An aligned access to RAM that is not protected (R86, R99, R111). -/
structure ramReady (s : State) (w : Width) (a : Word) : Prop where
  aligned : w = .word → a.toNat % 2 = 0
  inRam : 0x10000 - min s.chip.ramSize 0xF800 ≤ a.toNat
  unprotected : ∀ b ∈ touched w a, ∀ p ∈ s.chip.protectedRam, ¬ (p.1.toNat ≤ b.toNat ∧ b.toNat ≤ p.2.toNat)

/-- A store that leaves the prefetched word alone: the core is halted, or no byte of it is in the word after the
instruction (R109, D15). -/
def clearOfPrefetch (s : State) (w : Width) (a : Word) : Prop :=
  s.xgdbg = false → ∀ b ∈ touched w a, b ≠ s.pc + 2 ∧ b ≠ s.pc + 3

/-- An aligned access to the Register Space outside the module's own block (R86, R94). -/
structure deviceReady (s : State) (w : Width) (a : Word) : Prop where
  aligned : w = .word → a.toNat % 2 = 0
  inSpace : a.toNat ≤ 0x07FF
  outside : a.toNat < s.chip.xgateBase.toNat ∨ s.chip.xgateBase.toNat + 0x39 < a.toNat

/-- An access that is a software error: a misaligned word, or the Unmapped Address Space (R86, R99, R165). -/
def accessErrs (s : State) (w : Width) (a : Word) : Prop :=
  (w = .word ∧ a.toNat % 2 = 1) ∨ (0x07FF < a.toNat ∧ a.toNat < 0x10000 - min s.chip.ramSize 0xF800)

/-- What an access of either width reads, as a number, big-endian (R84). -/
def ramNumber (s : State) (w : Width) (a : Word) : Nat :=
  match w with
  | .byte => (s.ramByte a).toNat
  | .word => 256 * (s.ramByte a).toNat + (s.ramByte (a + 1)).toNat

/-- One form of a load or store: the instruction, its width, the address it accesses, what RI holds after it. -/
structure MemoryForm where
  instr : Instr
  width : Width
  address : Word
  index : Word

/-- The eight loads into `rd`: LDB and LDW in the modes (RB,#OFFS5), (RB,RI), (RB,RI+) and, where it has a meaning,
(RB,-RI). -/
def loadForms (s : State) (rd rb ri : Reg) (off : BitVec 5) : List MemoryForm :=
  [⟨.ldbOff rd rb off, .byte, eaOffset s rb off, s.reg ri⟩, ⟨.ldwOff rd rb off, .word, eaOffset s rb off, s.reg ri⟩,
    ⟨.ldbIdx rd rb ri, .byte, eaIndexed s rb ri, s.reg ri⟩, ⟨.ldwIdx rd rb ri, .word, eaIndexed s rb ri, s.reg ri⟩,
    ⟨.ldbInc rd rb ri, .byte, eaIndexed s rb ri, s.reg ri + 1⟩,
    ⟨.ldwInc rd rb ri, .word, eaIndexed s rb ri, s.reg ri + 2⟩] ++
  if ri = .r0 ∨ ri ≠ rb then
    [⟨.ldbDec rd rb ri, .byte, eaIndexed (preDecrement .byte ri s) rb ri, s.reg ri - 1⟩,
      ⟨.ldwDec rd rb ri, .word, eaIndexed (preDecrement .word ri s) rb ri, s.reg ri - 2⟩]
  else []

/-- The eight stores of `rs`: STB and STW in the same modes. -/
def storeForms (s : State) (rs rb ri : Reg) (off : BitVec 5) : List MemoryForm :=
  [⟨.stbOff rs rb off, .byte, eaOffset s rb off, s.reg ri⟩, ⟨.stwOff rs rb off, .word, eaOffset s rb off, s.reg ri⟩,
    ⟨.stbIdx rs rb ri, .byte, eaIndexed s rb ri, s.reg ri⟩, ⟨.stwIdx rs rb ri, .word, eaIndexed s rb ri, s.reg ri⟩,
    ⟨.stbInc rs rb ri, .byte, eaIndexed s rb ri, s.reg ri + 1⟩,
    ⟨.stwInc rs rb ri, .word, eaIndexed s rb ri, s.reg ri + 2⟩] ++
  if ri = .r0 ∨ ri ≠ rb then
    [⟨.stbDec rs rb ri, .byte, eaIndexed (preDecrement .byte ri s) rb ri, s.reg ri - 1⟩,
      ⟨.stwDec rs rb ri, .word, eaIndexed (preDecrement .word ri s) rb ri, s.reg ri - 2⟩]
  else []

/-- The registers after a load of `v`: the destination, then RI where it is another register (R176), the rest as before;
no flag is written (R165). -/
structure State.loaded (s t : State) (rd ri : Reg) (v index : Word) : Prop where
  dest : t.reg rd = written rd v
  indexReg : ri ≠ rd → t.reg ri = written ri index
  others : ∀ q, q ≠ rd → q ≠ ri → t.reg q = s.reg q
  flags : t.ccr = s.ccr
  pc : t.pc = s.pc + 2

/-- The registers after a store: RI, the rest as before; no flag is written (R165). -/
structure State.storedRegs (s t : State) (ri : Reg) (index : Word) : Prop where
  indexReg : t.reg ri = written ri index
  others : ∀ q, q ≠ ri → t.reg q = s.reg q
  flags : t.ccr = s.ccr
  pc : t.pc = s.pc + 2

/-- RAM after a store of `v` to `a`: the byte, or the word big-endian (R84), and every other byte as before. -/
structure State.storedRam (s t : State) (w : Width) (a v : Word) : Prop where
  byte : w = .byte → (t.ramByte a).toNat = v.toNat % 256
  word : w = .word → (t.ramByte a).toNat = v.toNat / 256 ∧ (t.ramByte (a + 1)).toNat = v.toNat % 256
  others : ∀ g : BitVec 20, (∀ b ∈ touched w a, g ≠ globalAddress s.chip s.xgvbr b) → t.globalByte g = s.globalByte g

/-! ## Encodings and the fetch -/

/-- `w` is the instruction word of `i`, both ways (R136, R140). -/
def isWordOf (w : Word) (i : Instr) : Prop := decodeWord w = .ok i ∧ encode i = w

/-- The core is about to execute the instruction at pc (R61, R376, R394): a thread runs, no tag waits, only the core moves,
and pc is an even address of unprotected RAM. -/
structure State.aboutToExecute (s : State) : Prop where
  env : s.env = []
  running : s.xgdbg = false ∧ s.xgsweif = false ∧ (s.freezeInput = false ∨ s.xgfrz = false) ∧ s.xgchid ≠ 0
  untagged : s.tagged = false
  fetch : ramReady s .word s.pc

/-- The channel is implemented: a member of IMPL_CH in `$09..$78` (R5, R322). -/
def implemented (c : Chip) (n : Nat) : Prop := 0x09 ≤ n ∧ n ≤ 0x78 ∧ c.implCh.getLsbD n = true

end Sys2Proof.Machine
end

