-- ==== Sys2Proof/Certificates/Slice0/Obligations.lean ====
section
/-! DEFINITION. The statements for the provers, in the order of the rules they come from. -/

section

open Sys2Proof Sys2Proof.Machine

/-- The table of R256: the condition code, the instruction, and the flags N:Z:V:C, as numbers, for which it is taken. -/
def Sys2Proof.Machine.branchTable : List (Nat × (BitVec 9 → Instr) × List Nat) :=
  [(0, .bcc, [0, 2, 4, 6, 8, 10, 12, 14]), (1, .bcs, [1, 3, 5, 7, 9, 11, 13, 15]),
    (2, .bne, [0, 1, 2, 3, 8, 9, 10, 11]), (3, .beq, [4, 5, 6, 7, 12, 13, 14, 15]),
    (4, .bpl, [0, 1, 2, 3, 4, 5, 6, 7]), (5, .bmi, [8, 9, 10, 11, 12, 13, 14, 15]),
    (6, .bvc, [0, 1, 4, 5, 8, 9, 12, 13]), (7, .bvs, [2, 3, 6, 7, 10, 11, 14, 15]),
    (8, .bhi, [0, 2, 8, 10]), (9, .bls, [1, 3, 4, 5, 6, 7, 9, 11, 12, 13, 14, 15]),
    (10, .bge, [0, 1, 4, 5, 10, 11, 14, 15]), (11, .blt, [2, 3, 6, 7, 8, 9, 12, 13]),
    (12, .bgt, [0, 1, 10, 11]), (13, .ble, [2, 3, 4, 5, 6, 7, 8, 9, 12, 13, 14, 15])]

/-- The set of illegal words of R141, as numbers. -/
def Sys2Proof.Machine.illegalNumber (n : Nat) : Bool :=
  (decide (n < 0x800) && n != 0 && n != 0x100 && n != 0x200 && n != 0x300
      && !(decide (0xF0 ≤ n % 0x100) && decide (n % 0x100 ≤ 0xF9)))
    || (decide (0x800 ≤ n) && decide (n < 0x1000) && (n / 8 % 4 == 0 || n % 16 == 8))
    || (decide (0x1000 ≤ n) && decide (n < 0x1800) && n % 4 == 1)

/-- The count of the five shifts in their immediate form (R281). -/
def Sys2Proof.Machine.immediateCount (k : BitVec 4) : Nat := if k.toNat = 0 then 16 else k.toNat

/-- The value a register has where the flags N, Z, V and C have theirs (R250). -/
def Sys2Proof.Machine.ccrNumber (f : CCR) : Nat := 8 * f.n.toNat + 4 * f.z.toNat + 2 * f.v.toNat + f.c.toNat

/-- What R63 gives the registers after reset. -/
def Sys2Proof.Machine.State.hasResetValues (t : State) : Prop :=
  t.xge = false ∧ t.xgfrz = false ∧ t.xgdbg = false ∧ t.xgsweif = false ∧ t.xgie = false ∧ t.xgchid = 0 ∧
  t.xgvbr = 0x000FFE00 ∧ t.xgif = 0 ∧ t.xgswt = 0 ∧ xgsemView t.sem = 0 ∧ t.ccr.bits = 0 ∧ t.pc = 0 ∧ ∀ q, t.reg q = 0

/-- The outcome of SSEM on semaphore `k` (R324): the semaphore, C, and everything else as before. -/
def Sys2Proof.Machine.State.afterSsem (s t : State) (k : BitVec 3) : Prop :=
  (s.sem.get k = .unlocked → t.sem.get k = .lockedXG ∧ t.ccr.c = true) ∧
  (s.sem.get k = .lockedXG → t.sem.get k = .lockedXG ∧ t.ccr.c = true) ∧
  (s.sem.get k = .lockedCPU → t.sem.get k = .lockedCPU ∧ t.ccr.c = false) ∧
  (∀ j, j ≠ k → t.sem.get j = s.sem.get j) ∧
  t.ccr.n = s.ccr.n ∧ t.ccr.z = s.ccr.z ∧ t.ccr.v = s.ccr.v ∧ t.pc = s.pc + 2 ∧
  (∀ q, t.reg q = s.reg q) ∧ { t with sem := s.sem, ccr := s.ccr, pc := s.pc } = s ∧ s.sameRam t

/-- The outcome of CSEM on semaphore `k` (R326). -/
def Sys2Proof.Machine.State.afterCsem (s t : State) (k : BitVec 3) : Prop :=
  (s.sem.get k = .unlocked → t.sem.get k = .unlocked) ∧
  (s.sem.get k = .lockedXG → t.sem.get k = .unlocked) ∧
  (s.sem.get k = .lockedCPU → t.sem.get k = .lockedCPU) ∧
  (∀ j, j ≠ k → t.sem.get j = s.sem.get j) ∧
  t.ccr = s.ccr ∧ t.pc = s.pc + 2 ∧
  (∀ q, t.reg q = s.reg q) ∧ { t with sem := s.sem, pc := s.pc } = s ∧ s.sameRam t

/-- The outcome of SIF on channel `n` (R322): one flag at most, and everything else as before. -/
def Sys2Proof.Machine.State.afterSif (s t : State) (n : Nat) : Prop :=
  (∀ j, t.xgif.getLsbD j = true ↔ s.xgif.getLsbD j = true ∨ (j = n ∧ implemented s.chip n)) ∧
  t.ccr = s.ccr ∧ t.pc = s.pc + 2 ∧
  (∀ q, t.reg q = s.reg q) ∧ { t with xgif := s.xgif, pc := s.pc } = s ∧ s.sameRam t

/-- One word of each family, from its pattern in R136. -/
def Obligations.SampleWordsDecode : Prop :=
  decodeWord 0b0000001100000000 = .ok .sif ∧ decodeWord 0b0000001111110010 = .ok (.ssemImm 3) ∧
  decodeWord 0b0000001111111000 = .ok (.tfrFromCcr .r3) ∧ decodeWord 0b0000110010110100 = .ok (.lslReg .r4 .r5) ∧
  decodeWord 0b0000110000011100 = .ok (.lslImm .r4 1) ∧ decodeWord 0b0001001110010100 = .ok (.and .r3 .r4 .r5) ∧
  decodeWord 0b0001110111011111 = .ok (.adc .r5 .r6 .r7) ∧ decodeWord 0b0010011000000101 = .ok (.beq 5) ∧
  decodeWord 0b0011111000000000 = .ok (.bra 0x200) ∧ decodeWord 0b0100101000100000 = .ok (.ldwOff .r2 .r1 0) ∧
  decodeWord 0b0110101100101101 = .ok (.ldwInc .r3 .r1 .r3) ∧ decodeWord 0b0111001000101010 = .ok (.stbDec .r2 .r1 .r2) ∧
  decodeWord 0b0110001110010111 = .ok (.bfext .r3 .r4 .r5) ∧ decodeWord 0b1111101110101011 = .ok (.ldh .r3 0xAB)

/-- Decode after encode, for all 87 encodings of R136 and every value of every field (R142); the bytes are stored
big-endian, which is the spec's own choice D1 (assumption log 2). -/
def Obligations.EncodingDecodesToTheInstruction : Prop :=
  ∀ (i : Instr) (rest : List Byte),
    decodeWord (encode i) = .ok i ∧ decodeBytes (encodeBytes i ++ rest) = .ok (i, rest)

/-- Encode after decode: "No listed encoding has don't care bits" (R142). -/
def Obligations.DecodedWordEncodesBack : Prop :=
  ∀ (w : Word) (i : Instr), decodeWord w = .ok i → encode i = w

/-- R141, whose set and count the spec marks as derived by enumeration; what the error leaves (R355) is the spec's own
choice D9 (assumption log 5). -/
def Obligations.IllegalWordsAreThoseOfTheTable : Prop :=
  (∀ w : Word, decodeWord w = .error (.illegalOpcode w) ↔ illegalNumber w.toNat = true) ∧
  (∀ w : Word, (∃ i, decodeWord w = .ok i) ↔ illegalNumber w.toNat = false) ∧
  ((List.range 65536).filter illegalNumber).length = 3116 ∧
  ∀ s : State, ramReady s .word s.pc → s.pc ≠ 0xFFFE → illegalNumber (ramNumber s .word s.pc) = true →
    ∃ t, executeOne s = .next t ∧ s.raised t [] s.pc

/-- R394: fetch, decode, execute, then the waiting debug request. That the bytes form a big-endian word is the spec's own
choice D1 (assumption log 2); the list of events is the model's (assumption log 13). -/
def Obligations.StepRunsTheDecodedInstruction : Prop :=
  (∀ (s : State) (i : Instr), s.aboutToExecute → s.pc ≠ 0xFFFE →
    decodeWord (joinBytes (s.ramByte s.pc) (s.ramByte (s.pc + 1))) = .ok i →
      (∀ t, exec i s = .next t →
        step s = .next (if t.dbgReq then { t with xgdbg := true, dbgReq := false, tagged := false } else t)) ∧
      (∀ r, exec i s = .refused r → step s = .refused r) ∧ ∀ e, exec i s ≠ .fault e) ∧
  ∀ (s : State) (e : Event) (rest : List Event), s.env = e :: rest → step s = applyEvent e { s with env := rest }

/-- R61, with the requests of R343 to R345, the tag of R376, the waiting request of R374 and the actions of R394, which
the spec marks as derived. That the tag is spent when the core halts is the model's choice (assumption log 18), and so
is the empty list of events for the core moving alone (assumption log 13). -/
def Obligations.RunStateDecidesWhatTheCoreDoes : Prop :=
  ∀ s : State, s.env = [] →
    ((s.xgdbg = true ∨ s.xgsweif = true ∨ (s.freezeInput = true ∧ s.xgfrz = true)) → step s = .next s) ∧
    (s.xgdbg = false ∧ s.xgsweif = false ∧ ¬ (s.freezeInput = true ∧ s.xgfrz = true) →
      (s.xgchid = 0 →
        ((s.xge = false ∨ pendingRequests s = 0) → step s = .next s) ∧
        (s.xge = true ∧ pendingRequests s ≠ 0 →
          ∃ n : BitVec 7, (pendingRequests s).getLsbD n.toNat = true ∧ step s = startThread n s)) ∧
      (s.xgchid ≠ 0 →
        (s.tagged = true → step s = .next { s with xgdbg := true, tagged := false }) ∧
        (s.tagged = false → ∀ t, executeOne s = .next t →
          step s = .next (if t.dbgReq then { t with xgdbg := true, dbgReq := false, tagged := false } else t))))

/-- R63, for State.reset and for the reset event. -/
def Obligations.ResetGivesTheRegistersTheirValues : Prop :=
  State.reset.hasResetValues ∧
  ∀ (s : State) (rest : List Event), s.env = .reset :: rest →
    ∃ t, step s = .next t ∧ t.hasResetValues ∧ t.env = rest

/-- The invariant at reset. It includes the model's own choices: the chip a run from reset is on (assumption log 1) and
the form RAM is held in (assumption log 3). -/
def Obligations.ResetMeetsTheInvariant : Prop :=
  State.reset.Inv

/-- The invariant State.Inv over every step, and the chip: R43, R44, R46, R381, and the canonical form of RAM (assumption
log 3). The chips it admits are assumption log 1's, XGVBR's read-only bits assumption log 21's. -/
def Obligations.EveryStepKeepsTheInvariant : Prop :=
  ∀ s t : State, s.Inv → step s = .next t → t.Inv ∧ t.chip = s.chip

/-- R195, R196 with the flags of R191. -/
def Obligations.AddAndAdcGiveTheSum : Prop :=
  ∀ (rd rs1 rs2 : Reg) (s : State),
    isWordOf (0x1802 ||| put 8 rd.bits ||| put 5 rs1.bits ||| put 2 rs2.bits) (.add rd rs1 rs2) ∧
    isWordOf (0x1803 ||| put 8 rd.bits ||| put 5 rs1.bits ||| put 2 rs2.bits) (.adc rd rs1 rs2) ∧
    (∃ t r f, exec (.add rd rs1 rs2) s = .next t ∧ s.computed t rd r f ∧
      SumOf (s.reg rs1) (s.reg rs2) false r f ∧ (f.z = true ↔ r = 0)) ∧
    (∃ t r f, exec (.adc rd rs1 rs2) s = .next t ∧ s.computed t rd r f ∧
      SumOf (s.reg rs1) (s.reg rs2) s.ccr.c r f ∧ (f.z = true ↔ r = 0 ∧ s.ccr.z = true))

/-- R197, R198 with the flags of R192. -/
def Obligations.SubAndSbcGiveTheDifference : Prop :=
  ∀ (rd rs1 rs2 : Reg) (s : State),
    isWordOf (0x1800 ||| put 8 rd.bits ||| put 5 rs1.bits ||| put 2 rs2.bits) (.sub rd rs1 rs2) ∧
    isWordOf (0x1801 ||| put 8 rd.bits ||| put 5 rs1.bits ||| put 2 rs2.bits) (.sbc rd rs1 rs2) ∧
    (∃ t r f, exec (.sub rd rs1 rs2) s = .next t ∧ s.computed t rd r f ∧
      DifferenceOf (s.reg rs1) (s.reg rs2) false r f ∧ (f.z = true ↔ r = 0)) ∧
    (∃ t r f, exec (.sbc rd rs1 rs2) s = .next t ∧ s.computed t rd r f ∧
      DifferenceOf (s.reg rs1) (s.reg rs2) s.ccr.c r f ∧ (f.z = true ↔ r = 0 ∧ s.ccr.z = true))

/-- R203 to R206. ADDL and SUBL in the 16-bit reading: the spec's own choice D11, assumption log 36. -/
def Obligations.ImmediateAddAndSubtract : Prop :=
  ∀ (rd : Reg) (k : Byte) (s : State),
    (∃ t r f, exec (.addl rd k) s = .next t ∧ s.computed t rd r f ∧
      SumOf (s.reg rd) (BitVec.ofNat 16 k.toNat) false r f ∧ (f.z = true ↔ r = 0)) ∧
    (∃ t r f, exec (.addh rd k) s = .next t ∧ s.computed t rd r f ∧
      SumOf (s.reg rd) (BitVec.ofNat 16 (256 * k.toNat)) false r f ∧ (f.z = true ↔ r = 0)) ∧
    (∃ t r f, exec (.subl rd k) s = .next t ∧ s.computed t rd r f ∧
      DifferenceOf (s.reg rd) (BitVec.ofNat 16 k.toNat) false r f ∧ (f.z = true ↔ r = 0)) ∧
    (∃ t r f, exec (.subh rd k) s = .next t ∧ s.computed t rd r f ∧
      DifferenceOf (s.reg rd) (BitVec.ofNat 16 (256 * k.toNat)) false r f ∧ (f.z = true ↔ r = 0))

/-- R208, R209. -/
def Obligations.CmplAndCpchWriteTheFlagsOnly : Prop :=
  ∀ (rs : Reg) (k : Byte) (s : State),
    isWordOf (0xD000 ||| put 8 rs.bits ||| put 0 k) (.cmpl rs k) ∧
    isWordOf (0xD800 ||| put 8 rs.bits ||| put 0 k) (.cpch rs k) ∧
    (∃ t r f, exec (.cmpl rs k) s = .next t ∧ s.tested t f ∧
      DifferenceOf ((s.reg rs).extractLsb' 0 8) k false r f ∧ (f.z = true ↔ r = 0)) ∧
    (∃ t r f, exec (.cpch rs k) s = .next t ∧ s.tested t f ∧
      DifferenceOf ((s.reg rs).extractLsb' 8 8) k s.ccr.c r f ∧ (f.z = true ↔ r = 0 ∧ s.ccr.z = true))

/-- R210, which the spec marks as derived. -/
def Obligations.CmplThenCpchCompareSixteenBits : Prop :=
  ∀ (rs : Reg) (lo hi : Byte) (s : State), ∃ t u r,
    exec (.cmpl rs lo) s = .next t ∧ exec (.cpch rs hi) t = .next u ∧
    DifferenceOf (s.reg rs) (hi ++ lo : Word) false r u.ccr ∧ (u.ccr.z = true ↔ s.reg rs = (hi ++ lo : Word)) ∧
    (∀ q, u.reg q = s.reg q) ∧ u.pc = s.pc + 4

/-- R211, which the spec marks as derived. -/
def Obligations.AddAdcAndSubSbcWorkOnThirtyTwoBits : Prop :=
  ∀ s : State,
    (∃ t u, exec (.add .r6 .r4 .r2) s = .next t ∧ exec (.adc .r7 .r5 .r3) t = .next u ∧
      SumOf (s.reg .r5 ++ s.reg .r4) (s.reg .r3 ++ s.reg .r2) false (u.reg .r7 ++ u.reg .r6) u.ccr ∧
      (u.ccr.z = true ↔ u.reg .r7 = 0 ∧ u.reg .r6 = 0)) ∧
    (∃ t u, exec (.sub .r6 .r4 .r2) s = .next t ∧ exec (.sbc .r7 .r5 .r3) t = .next u ∧
      DifferenceOf (s.reg .r5 ++ s.reg .r4) (s.reg .r3 ++ s.reg .r2) false (u.reg .r7 ++ u.reg .r6) u.ccr ∧
      (u.ccr.z = true ↔ u.reg .r7 = 0 ∧ u.reg .r6 = 0))

/-- R258, which the spec marks as derived. -/
def Obligations.BranchesAfterACompareFollowTheRelation : Prop :=
  (∀ (rs1 rs2 : Reg) (s : State), ∃ t, exec (.sub .r0 rs1 rs2) s = .next t ∧ OrderOf (s.reg rs1) (s.reg rs2) t.ccr) ∧
  (∀ (rs : Reg) (k : Byte) (s : State), ∃ t, exec (.cmpl rs k) s = .next t ∧
    OrderOf ((s.reg rs).extractLsb' 0 8) k t.ccr) ∧
  (∀ (rs : Reg) (lo hi : Byte) (s : State), ∃ t u, exec (.cmpl rs lo) s = .next t ∧ exec (.cpch rs hi) t = .next u ∧
    OrderOf (s.reg rs) (hi ++ lo : Word) u.ccr) ∧
  (∀ (l1 h1 l2 h2 : Reg) (s : State), ∃ t u, exec (.sub .r0 l1 l2) s = .next t ∧ exec (.sbc .r0 h1 h2) t = .next u ∧
    OrderOf (s.reg h1 ++ s.reg l1) (s.reg h2 ++ s.reg l2) u.ccr) ∧
  ∀ (w : Nat) (a b : BitVec w) (rel : BitVec 9) (s : State), OrderOf a b s.ccr →
    exec (.beq rel) s = .next (s.setPc (if a = b then target9 s.pc rel else s.pc + 2)) ∧
    exec (.bne rel) s = .next (s.setPc (if a ≠ b then target9 s.pc rel else s.pc + 2)) ∧
    exec (.bhi rel) s = .next (s.setPc (if b.toNat < a.toNat then target9 s.pc rel else s.pc + 2)) ∧
    exec (.bcc rel) s = .next (s.setPc (if b.toNat ≤ a.toNat then target9 s.pc rel else s.pc + 2)) ∧
    exec (.bcs rel) s = .next (s.setPc (if a.toNat < b.toNat then target9 s.pc rel else s.pc + 2)) ∧
    exec (.bls rel) s = .next (s.setPc (if a.toNat ≤ b.toNat then target9 s.pc rel else s.pc + 2)) ∧
    exec (.bgt rel) s = .next (s.setPc (if b.toInt < a.toInt then target9 s.pc rel else s.pc + 2)) ∧
    exec (.bge rel) s = .next (s.setPc (if b.toInt ≤ a.toInt then target9 s.pc rel else s.pc + 2)) ∧
    exec (.blt rel) s = .next (s.setPc (if a.toInt < b.toInt then target9 s.pc rel else s.pc + 2)) ∧
    exec (.ble rel) s = .next (s.setPc (if a.toInt ≤ b.toInt then target9 s.pc rel else s.pc + 2))

/-- R222 to R224. -/
def Obligations.TriadicLogicWorksBitByBit : Prop :=
  ∀ (rd rs1 rs2 : Reg) (s : State),
    isWordOf (0x1000 ||| put 8 rd.bits ||| put 5 rs1.bits ||| put 2 rs2.bits) (.and rd rs1 rs2) ∧
    isWordOf (0x1002 ||| put 8 rd.bits ||| put 5 rs1.bits ||| put 2 rs2.bits) (.or rd rs1 rs2) ∧
    isWordOf (0x1003 ||| put 8 rd.bits ||| put 5 rs1.bits ||| put 2 rs2.bits) (.xnor rd rs1 rs2) ∧
    (∃ t r f, exec (.and rd rs1 rs2) s = .next t ∧ s.computed t rd r f ∧ LogicFlagsOf s.ccr r f ∧
      ∀ i, i < 16 → r.getLsbD i = ((s.reg rs1).getLsbD i && (s.reg rs2).getLsbD i)) ∧
    (∃ t r f, exec (.or rd rs1 rs2) s = .next t ∧ s.computed t rd r f ∧ LogicFlagsOf s.ccr r f ∧
      ∀ i, i < 16 → r.getLsbD i = ((s.reg rs1).getLsbD i || (s.reg rs2).getLsbD i)) ∧
    (∃ t r f, exec (.xnor rd rs1 rs2) s = .next t ∧ s.computed t rd r f ∧ LogicFlagsOf s.ccr r f ∧
      ∀ i, i < 16 → r.getLsbD i = ((s.reg rs1).getLsbD i == (s.reg rs2).getLsbD i))

/-- R230, R231 and R234 to R237. -/
def Obligations.ByteLogicWithAConstant : Prop :=
  ∀ (rd : Reg) (k : Byte) (s : State),
    isWordOf (0x8000 ||| put 8 rd.bits ||| put 0 k) (.andl rd k) ∧
    isWordOf (0xA000 ||| put 8 rd.bits ||| put 0 k) (.orl rd k) ∧
    isWordOf (0xB000 ||| put 8 rd.bits ||| put 0 k) (.xnorl rd k) ∧
    (∃ t r f, exec (.andl rd k) s = .next t ∧ s.computed t rd r f ∧
      LogicFlagsOf s.ccr (r.extractLsb' 0 8) f ∧ r.extractLsb' 8 8 = (s.reg rd).extractLsb' 8 8 ∧
      ∀ i, i < 8 → r.getLsbD i = ((s.reg rd).getLsbD i && k.getLsbD i)) ∧
    (∃ t r f, exec (.orl rd k) s = .next t ∧ s.computed t rd r f ∧
      LogicFlagsOf s.ccr (r.extractLsb' 0 8) f ∧ r.extractLsb' 8 8 = (s.reg rd).extractLsb' 8 8 ∧
      ∀ i, i < 8 → r.getLsbD i = ((s.reg rd).getLsbD i || k.getLsbD i)) ∧
    (∃ t r f, exec (.xnorl rd k) s = .next t ∧ s.computed t rd r f ∧
      LogicFlagsOf s.ccr (r.extractLsb' 0 8) f ∧ r.extractLsb' 8 8 = (s.reg rd).extractLsb' 8 8 ∧
      ∀ i, i < 8 → r.getLsbD i = ((s.reg rd).getLsbD i == k.getLsbD i)) ∧
    isWordOf (0x8800 ||| put 8 rd.bits ||| put 0 k) (.andh rd k) ∧
    isWordOf (0xA800 ||| put 8 rd.bits ||| put 0 k) (.orh rd k) ∧
    isWordOf (0xB800 ||| put 8 rd.bits ||| put 0 k) (.xnorh rd k) ∧
    (∃ t r f, exec (.andh rd k) s = .next t ∧ s.computed t rd r f ∧
      LogicFlagsOf s.ccr (r.extractLsb' 8 8) f ∧ r.extractLsb' 0 8 = (s.reg rd).extractLsb' 0 8 ∧
      ∀ i, i < 8 → r.getLsbD (8 + i) = ((s.reg rd).getLsbD (8 + i) && k.getLsbD i)) ∧
    (∃ t r f, exec (.orh rd k) s = .next t ∧ s.computed t rd r f ∧
      LogicFlagsOf s.ccr (r.extractLsb' 8 8) f ∧ r.extractLsb' 0 8 = (s.reg rd).extractLsb' 0 8 ∧
      ∀ i, i < 8 → r.getLsbD (8 + i) = ((s.reg rd).getLsbD (8 + i) || k.getLsbD i)) ∧
    (∃ t r f, exec (.xnorh rd k) s = .next t ∧ s.computed t rd r f ∧
      LogicFlagsOf s.ccr (r.extractLsb' 8 8) f ∧ r.extractLsb' 0 8 = (s.reg rd).extractLsb' 0 8 ∧
      ∀ i, i < 8 → r.getLsbD (8 + i) = ((s.reg rd).getLsbD (8 + i) == k.getLsbD i))

/-- R232, R233. -/
def Obligations.BitTestsWriteTheFlagsOnly : Prop :=
  ∀ (rd : Reg) (k : Byte) (s : State),
    isWordOf (0x9000 ||| put 8 rd.bits ||| put 0 k) (.bitl rd k) ∧
    isWordOf (0x9800 ||| put 8 rd.bits ||| put 0 k) (.bith rd k) ∧
    (∃ t f b, exec (.bitl rd k) s = .next t ∧ s.tested t f ∧ LogicFlagsOf s.ccr (b : Byte) f ∧
      ∀ i, i < 8 → b.getLsbD i = ((s.reg rd).getLsbD i && k.getLsbD i)) ∧
    (∃ t f b, exec (.bith rd k) s = .next t ∧ s.tested t f ∧ LogicFlagsOf s.ccr (b : Byte) f ∧
      ∀ i, i < 8 → b.getLsbD i = ((s.reg rd).getLsbD (8 + i) && k.getLsbD i))

/-- R244, R245. -/
def Obligations.SignExtensionAndParity : Prop :=
  ∀ (rd : Reg) (s : State),
    isWordOf (0x00F4 ||| put 8 rd.bits) (.sex rd) ∧ isWordOf (0x00F5 ||| put 8 rd.bits) (.par rd) ∧
    (∃ t r f, exec (.sex rd) s = .next t ∧ s.computed t rd r f ∧ LogicFlagsOf s.ccr r f ∧
      r.toInt = ((s.reg rd).extractLsb' 0 8).toInt) ∧
    (∃ t f, exec (.par rd) s = .next t ∧ s.tested t f ∧ f.n = false ∧ f.v = false ∧
      (f.z = true ↔ s.reg rd = 0) ∧
      (f.c = true ↔ ((List.range 16).filter (fun i => (s.reg rd).getLsbD i)).length % 2 = 1))

/-- R300. -/
def Obligations.BffoFindsTheHighestOne : Prop :=
  ∀ (rd rs : Reg) (s : State),
    isWordOf (0x0810 ||| put 8 rd.bits ||| put 5 rs.bits) (.bffo rd rs) ∧
    ∃ t r f, exec (.bffo rd rs) s = .next t ∧ s.computed t rd r f ∧ f.n = false ∧ f.v = false ∧
      (f.z = true ↔ r = 0) ∧ (f.c = true ↔ s.reg rs = 0) ∧
      (s.reg rs = 0 → r = 0) ∧
      (s.reg rs ≠ 0 → r.toNat < 16 ∧ (s.reg rs).getLsbD r.toNat = true ∧
        ∀ i, r.toNat < i → (s.reg rs).getLsbD i = false)

/-- R286, R287, R290, R291. -/
def Obligations.LeftShiftsInBothForms : Prop :=
  ∀ (rd rs : Reg) (k : BitVec 4) (s : State),
    isWordOf (0x080C ||| put 8 rd.bits ||| put 4 k) (.lslImm rd k) ∧
    isWordOf (0x0814 ||| put 8 rd.bits ||| put 5 rs.bits) (.lslReg rd rs) ∧
    isWordOf (0x080A ||| put 8 rd.bits ||| put 4 k) (.cslImm rd k) ∧
    isWordOf (0x0812 ||| put 8 rd.bits ||| put 5 rs.bits) (.cslReg rd rs) ∧
    (∃ t r f, exec (.lslImm rd k) s = .next t ∧ s.computed t rd r f ∧
      LeftShift (s.reg rd) (immediateCount k) false s.ccr r f) ∧
    (∃ t r f, exec (.lslReg rd rs) s = .next t ∧ s.computed t rd r f ∧
      LeftShift (s.reg rd) (min (s.reg rs).toNat 16) false s.ccr r f) ∧
    (∃ t r f, exec (.cslImm rd k) s = .next t ∧ s.computed t rd r f ∧
      LeftShift (s.reg rd) (immediateCount k) s.ccr.c s.ccr r f) ∧
    (∃ t r f, exec (.cslReg rd rs) s = .next t ∧ s.computed t rd r f ∧
      LeftShift (s.reg rd) (min (s.reg rs).toNat 16) s.ccr.c s.ccr r f)

/-- R284, R285, R288, R289, R292, R293. -/
def Obligations.RightShiftsInBothForms : Prop :=
  ∀ (rd rs : Reg) (k : BitVec 4) (s : State),
    isWordOf (0x080D ||| put 8 rd.bits ||| put 4 k) (.lsrImm rd k) ∧
    isWordOf (0x0815 ||| put 8 rd.bits ||| put 5 rs.bits) (.lsrReg rd rs) ∧
    isWordOf (0x080B ||| put 8 rd.bits ||| put 4 k) (.csrImm rd k) ∧
    isWordOf (0x0813 ||| put 8 rd.bits ||| put 5 rs.bits) (.csrReg rd rs) ∧
    isWordOf (0x0809 ||| put 8 rd.bits ||| put 4 k) (.asrImm rd k) ∧
    isWordOf (0x0811 ||| put 8 rd.bits ||| put 5 rs.bits) (.asrReg rd rs) ∧
    (∃ t r f, exec (.lsrImm rd k) s = .next t ∧ s.computed t rd r f ∧
      RightShift (s.reg rd) (immediateCount k) false s.ccr r f) ∧
    (∃ t r f, exec (.lsrReg rd rs) s = .next t ∧ s.computed t rd r f ∧
      RightShift (s.reg rd) (min (s.reg rs).toNat 16) false s.ccr r f) ∧
    (∃ t r f, exec (.csrImm rd k) s = .next t ∧ s.computed t rd r f ∧
      RightShift (s.reg rd) (immediateCount k) s.ccr.c s.ccr r f) ∧
    (∃ t r f, exec (.csrReg rd rs) s = .next t ∧ s.computed t rd r f ∧
      RightShift (s.reg rd) (min (s.reg rs).toNat 16) s.ccr.c s.ccr r f) ∧
    (∃ t r f, exec (.asrImm rd k) s = .next t ∧ s.computed t rd r f ∧
      RightShift (s.reg rd) (immediateCount k) ((s.reg rd).getLsbD 15) s.ccr r f) ∧
    (∃ t r f, exec (.asrReg rd rs) s = .next t ∧ s.computed t rd r f ∧
      RightShift (s.reg rd) (min (s.reg rs).toNat 16) ((s.reg rd).getLsbD 15) s.ccr r f)

/-- R294 to R298. -/
def Obligations.RotatesInBothForms : Prop :=
  ∀ (rd rs : Reg) (k : BitVec 4) (s : State),
    isWordOf (0x080E ||| put 8 rd.bits ||| put 4 k) (.rolImm rd k) ∧
    isWordOf (0x0816 ||| put 8 rd.bits ||| put 5 rs.bits) (.rolReg rd rs) ∧
    isWordOf (0x080F ||| put 8 rd.bits ||| put 4 k) (.rorImm rd k) ∧
    isWordOf (0x0817 ||| put 8 rd.bits ||| put 5 rs.bits) (.rorReg rd rs) ∧
    (∃ t r f, exec (.rolImm rd k) s = .next t ∧ s.computed t rd r f ∧ LogicFlagsOf s.ccr r f ∧
      ∀ i, i < 16 → r.getLsbD ((i + k.toNat) % 16) = (s.reg rd).getLsbD i) ∧
    (∃ t r f, exec (.rolReg rd rs) s = .next t ∧ s.computed t rd r f ∧ LogicFlagsOf s.ccr r f ∧
      ∀ i, i < 16 → r.getLsbD ((i + (s.reg rs).toNat % 16) % 16) = (s.reg rd).getLsbD i) ∧
    (∃ t r f, exec (.rorImm rd k) s = .next t ∧ s.computed t rd r f ∧ LogicFlagsOf s.ccr r f ∧
      ∀ i, i < 16 → r.getLsbD i = (s.reg rd).getLsbD ((i + k.toNat) % 16)) ∧
    (∃ t r f, exec (.rorReg rd rs) s = .next t ∧ s.computed t rd r f ∧ LogicFlagsOf s.ccr r f ∧
      ∀ i, i < 16 → r.getLsbD i = (s.reg rd).getLsbD ((i + (s.reg rs).toNat % 16) % 16))

/-- R301, which the spec marks as derived. -/
def Obligations.ShiftsByOneChainThroughTheCarry : Prop :=
  ∀ (lo hi : Reg) (s : State), lo ≠ .r0 → hi ≠ .r0 → lo ≠ hi →
    (∃ t u, exec (.lslImm lo 1) s = .next t ∧ exec (.cslImm hi 1) t = .next u ∧
      (u.reg hi ++ u.reg lo).toNat = 2 * (s.reg hi ++ s.reg lo).toNat % 2 ^ 32 ∧
      u.ccr.c = (s.reg hi).getLsbD 15) ∧
    (∃ t u, exec (.lsrImm hi 1) s = .next t ∧ exec (.csrImm lo 1) t = .next u ∧
      (u.reg hi ++ u.reg lo).toNat = (s.reg hi ++ s.reg lo).toNat / 2 ∧ u.ccr.c = (s.reg lo).getLsbD 0)

/-- R314, with the field descriptor of R311. -/
def Obligations.BfextExtractsTheField : Prop :=
  ∀ (rd rs1 rs2 : Reg) (s : State),
    isWordOf (0x6003 ||| put 8 rd.bits ||| put 5 rs1.bits ||| put 2 rs2.bits) (.bfext rd rs1 rs2) ∧
    ∃ t r f, exec (.bfext rd rs1 rs2) s = .next t ∧ s.computed t rd r f ∧ LogicFlagsOf s.ccr r f ∧
      ∀ i, i < 16 →
        r.getLsbD i = if i ≤ (s.reg rs2).toNat / 16 % 16 then (s.reg rs1).getLsbD ((s.reg rs2).toNat % 16 + i) else false

/-- R315 to R317, with the field descriptor of R311. -/
def Obligations.FieldInsertsChangeTheFieldOnly : Prop :=
  ∀ (rd rs1 rs2 : Reg) (s : State),
    isWordOf (0x6803 ||| put 8 rd.bits ||| put 5 rs1.bits ||| put 2 rs2.bits) (.bfins rd rs1 rs2) ∧
    isWordOf (0x7003 ||| put 8 rd.bits ||| put 5 rs1.bits ||| put 2 rs2.bits) (.bfinsi rd rs1 rs2) ∧
    isWordOf (0x7803 ||| put 8 rd.bits ||| put 5 rs1.bits ||| put 2 rs2.bits) (.bfinsx rd rs1 rs2) ∧
    (∃ t r f, exec (.bfins rd rs1 rs2) s = .next t ∧ s.computed t rd r f ∧ LogicFlagsOf s.ccr r f ∧
      ∀ i o w, o = (s.reg rs2).toNat % 16 → w = (s.reg rs2).toNat / 16 % 16 → i < 16 →
        r.getLsbD i = if o ≤ i ∧ i ≤ o + w then (s.reg rs1).getLsbD (i - o) else (s.reg rd).getLsbD i) ∧
    (∃ t r f, exec (.bfinsi rd rs1 rs2) s = .next t ∧ s.computed t rd r f ∧ LogicFlagsOf s.ccr r f ∧
      ∀ i o w, o = (s.reg rs2).toNat % 16 → w = (s.reg rs2).toNat / 16 % 16 → i < 16 →
        r.getLsbD i = if o ≤ i ∧ i ≤ o + w then !(s.reg rs1).getLsbD (i - o) else (s.reg rd).getLsbD i) ∧
    (∃ t r f, exec (.bfinsx rd rs1 rs2) s = .next t ∧ s.computed t rd r f ∧ LogicFlagsOf s.ccr r f ∧
      ∀ i o w, o = (s.reg rs2).toNat % 16 → w = (s.reg rs2).toNat / 16 % 16 → i < 16 →
        r.getLsbD i = if o ≤ i ∧ i ≤ o + w then ((s.reg rs1).getLsbD (i - o) == (s.reg rd).getLsbD i) else (s.reg rd).getLsbD i)

/-- R250, R251. -/
def Obligations.TransfersMoveTheFourFlags : Prop :=
  ∀ (r : Reg) (s : State),
    isWordOf (0x00F8 ||| put 8 r.bits) (.tfrFromCcr r) ∧ isWordOf (0x00F9 ||| put 8 r.bits) (.tfrToCcr r) ∧
    (∃ t v, exec (.tfrFromCcr r) s = .next t ∧ s.computed t r v s.ccr ∧ v.toNat = ccrNumber s.ccr) ∧
    (∃ t f, exec (.tfrToCcr r) s = .next t ∧ s.tested t f ∧ ccrNumber f = (s.reg r).toNat % 16)

/-- R252, which the spec marks as derived. -/
def Obligations.FlagsSavedByTfrAreRestoredByTfr : Prop :=
  ∀ (rd : Reg) (s : State) (f : CCR), rd ≠ .r0 → ∃ t u,
    exec (.tfrFromCcr rd) s = .next t ∧ exec (.tfrToCcr rd) (t.setCcr f) = .next u ∧ u.ccr = s.ccr ∧
    (s.xgdbg = true → s.chip.secured = false → (hostByte s 0x1D).toNat = (t.reg rd).toNat)

/-- R255, R256. That the target and pc + 2 wrap modulo 2^16 is the spec's own choice D16 (R26, assumption log 29). -/
def Obligations.ConditionalBranchesFollowTheTable : Prop :=
  ∀ e ∈ branchTable, ∀ (rel : BitVec 9) (s : State),
    isWordOf (BitVec.ofNat 16 (0x2000 + 0x200 * e.1) ||| put 0 rel) (e.2.1 rel) ∧
    exec (e.2.1 rel) s = .next { s with
      pc := BitVec.ofInt 16 (s.pc.toNat + 2 + if s.ccr.bits.toNat ∈ e.2.2 then 2 * rel.toInt else 0) }

/-- R273, R272. That the target and the return address wrap modulo 2^16 is the spec's own choice D16 (R26, assumption log
29). -/
def Obligations.BraAndJalSetTheProgramCounter : Prop :=
  (∀ (rel : BitVec 10) (s : State), isWordOf (0x3C00 ||| put 0 rel) (.bra rel) ∧
    exec (.bra rel) s = .next { s with pc := BitVec.ofInt 16 (s.pc.toNat + 2 + 2 * rel.toInt) }) ∧
  ∀ (rd : Reg) (s : State), isWordOf (0x00F6 ||| put 8 rd.bits) (.jal rd) ∧
    ∃ t, exec (.jal rd) s = .next t ∧ t.pc = s.reg rd ∧ t.reg rd = written rd (s.pc + 2) ∧
      (∀ q, q ≠ rd → t.reg q = s.reg q) ∧ t.ccr = s.ccr ∧ s.sameModule t ∧ s.sameRam t

/-- R160 to R176. Byte order and address arithmetic are the spec's own choices D1 and D16 (assumption log 2 and 29). -/
def Obligations.LoadsFromRam : Prop :=
  ∀ (s : State) (rd rb ri : Reg) (off : BitVec 5), ∀ e ∈ loadForms s rd rb ri off, ramReady s e.width e.address →
    ∃ t, exec e.instr s = .next t ∧
      s.loaded t rd ri (BitVec.ofNat 16 (ramNumber s e.width e.address)) e.index ∧ s.sameModule t ∧ s.sameRam t

/-- R160 to R165, R177, R182 to R189. Byte order, address arithmetic and the prefetched word are the spec's own choices
D1, D16, D15 (assumption log 2, 29, 10). -/
def Obligations.StoresToRam : Prop :=
  ∀ (s : State) (rs rb ri : Reg) (off : BitVec 5), ∀ e ∈ storeForms s rs rb ri off,
    ramReady s e.width e.address → clearOfPrefetch s e.width e.address →
    ∃ t, exec e.instr s = .next t ∧ s.storedRegs t ri e.index ∧ s.storedRam t e.width e.address (s.reg rs) ∧
      { t with regs := s.regs, pc := s.pc, ram := s.ram } = s

/-- R94, R165. The device oracle is the spec's choice D14, its record the model's (assumption log 7). -/
def Obligations.PeripheralAccessesAreDeviceAccesses : Prop :=
  (∀ (s : State) (rd rb ri : Reg) (off : BitVec 5), ∀ e ∈ loadForms s rd rb ri off, deviceReady s e.width e.address →
    ∃ t v, exec e.instr s = .next t ∧ s.loaded t rd ri v e.index ∧ (e.width = .byte → v.toNat < 256) ∧
      t.periph = .read .core e.width e.address :: s.periph ∧
      { t with regs := s.regs, pc := s.pc, periph := s.periph, draws := s.draws } = s ∧ s.sameRam t) ∧
  ∀ (s : State) (rs rb ri : Reg) (off : BitVec 5), ∀ e ∈ storeForms s rs rb ri off, deviceReady s e.width e.address →
    ∃ t v, exec e.instr s = .next t ∧ s.storedRegs t ri e.index ∧
      v.toNat = (if e.width = .byte then (s.reg rs).toNat % 256 else (s.reg rs).toNat) ∧
      t.periph = .write .core e.width e.address v :: s.periph ∧
      { t with regs := s.regs, pc := s.pc, periph := s.periph } = s ∧ s.sameRam t

/-- R93, R99, R165, R174, R352, R355. Which registers are open is the spec's own choice D9 (assumption log 5). What a
misaligned access makes on the bus is open by R90 (assumption log 40). -/
def Obligations.BadDataAccessesRaiseASoftwareError : Prop :=
  ∀ (s : State) (r rb ri : Reg) (off : BitVec 5), ∀ e ∈ loadForms s r rb ri off ++ storeForms s r rb ri off,
    accessErrs s e.width e.address → ∃ t, exec e.instr s = .next t ∧ s.raised t (resultRegs e.instr) e.address

/-- The spec refuses these traces as its own choices D12, D20, D3 and D15 (assumption log 12, 9, 8, 10). -/
def Obligations.AccessesWithoutAMeaningAreRefused : Prop :=
  (∀ (s : State) (r rb : Reg), rb ≠ .r0 →
    exec (.ldbDec r rb rb) s = .refused .preDecrementOfBase ∧ exec (.ldwDec r rb rb) s = .refused .preDecrementOfBase ∧
    exec (.stbDec r rb rb) s = .refused .preDecrementOfBase ∧ exec (.stwDec r rb rb) s = .refused .preDecrementOfBase) ∧
  (∀ (s : State) (r rb ri : Reg) (off : BitVec 5), ∀ e ∈ loadForms s r rb ri off ++ storeForms s r rb ri off,
    (e.width = .word → e.address.toNat % 2 = 0) →
      (0x10000 - min s.chip.ramSize 0xF800 ≤ e.address.toNat →
        (∃ b ∈ touched e.width e.address, ∃ p ∈ s.chip.protectedRam, p.1.toNat ≤ b.toNat ∧ b.toNat ≤ p.2.toNat) →
        exec e.instr s = .refused .protectedRam) ∧
      (e.address.toNat ≤ 0x07FF → s.chip.xgateBase.toNat ≤ e.address.toNat →
        e.address.toNat ≤ s.chip.xgateBase.toNat + 0x39 → e.address.toNat ≠ s.chip.xgateBase.toNat + 0x18 →
        e.address.toNat ≠ s.chip.xgateBase.toNat + 0x19 → exec e.instr s = .refused .ownModuleRegister)) ∧
  ∀ (s : State) (r rb ri : Reg) (off : BitVec 5), ∀ e ∈ storeForms s r rb ri off, ramReady s e.width e.address →
    s.xgdbg = false → (∃ b ∈ touched e.width e.address, b = s.pc + 2 ∨ b = s.pc + 3) →
    exec e.instr s = .refused .prefetchedWordWritten

/-- The spec's own choice D3 (assumption log 8), with R49, R50, R165 and R363. -/
def Obligations.TheCoreReachesTheSoftwareTriggers : Prop :=
  ∀ (s : State) (r rb ri : Reg) (off : BitVec 5), s.chip.xgateBase.toNat % 2 = 0 → s.chip.xgateBase.toNat + 0x39 ≤ 0x07FF →
    (∀ e ∈ loadForms s r rb ri off,
      (e.address = s.chip.xgateBase + 0x18 ∨ (e.width = .byte ∧ e.address = s.chip.xgateBase + 0x19)) →
      ∃ t v, exec e.instr s = .next t ∧ s.loaded t r ri v e.index ∧ s.sameModule t ∧ s.sameRam t ∧
        v.toNat = if e.width = .byte ∧ e.address = s.chip.xgateBase + 0x18 then 0 else s.xgswt.toNat) ∧
    (∀ e ∈ storeForms s r rb ri off,
      (e.address = s.chip.xgateBase + 0x18 ∨ (e.width = .byte ∧ e.address = s.chip.xgateBase + 0x19)) →
      ∃ t, exec e.instr s = .next t ∧ s.storedRegs t ri e.index ∧ s.sameRam t ∧
        { t with regs := s.regs, pc := s.pc, xgswt := s.xgswt } = s ∧
        ∀ k, k < 8 → t.xgswt.getLsbD k =
          if e.width = .word ∧ (s.reg r).getLsbD (8 + k) = true then (s.reg r).getLsbD k else s.xgswt.getLsbD k)

/-- R180, R181. -/
def Obligations.ImmediateLoadsBuildAConstant : Prop :=
  ∀ (rd : Reg) (k : Byte) (s : State),
    isWordOf (0xF000 ||| put 8 rd.bits ||| put 0 k) (.ldl rd k) ∧
    isWordOf (0xF800 ||| put 8 rd.bits ||| put 0 k) (.ldh rd k) ∧
    (∃ t v, exec (.ldl rd k) s = .next t ∧ s.computed t rd v s.ccr ∧ v.toNat = k.toNat) ∧
    (∃ t v, exec (.ldh rd k) s = .next t ∧ s.computed t rd v s.ccr ∧
      v.toNat = 256 * k.toNat + (s.reg rd).toNat % 256)

/-- R85, which rests on the spec's own choice D1 (assumption log 2). -/
def Obligations.WordsAndBytesAgreeBigEndian : Prop :=
  ∀ (s : State) (rd rs rs' rb : Reg), rd ≠ .r0 → ramReady s .word (s.reg rb) →
    (∀ k, k < 8 → s.reg rb ≠ s.pc + BitVec.ofNat 16 k ∧ s.reg rb + 1 ≠ s.pc + BitVec.ofNat 16 k) →
    (∃ t u v, exec (.stwOff rs rb 0) s = .next t ∧ exec (.ldbOff rd rb 0) t = .next u ∧
      exec (.ldbOff rd rb 1) t = .next v ∧
      (u.reg rd).toNat = (s.reg rs).toNat / 256 ∧ (v.reg rd).toNat = (s.reg rs).toNat % 256) ∧
    (∃ t u v, exec (.stbOff rs rb 0) s = .next t ∧ exec (.stbOff rs' rb 1) t = .next u ∧
      exec (.ldwOff rd rb 0) u = .next v ∧
      (v.reg rd).toNat = 256 * ((s.reg rs).toNat % 256) + (s.reg rs').toNat % 256)

/-- R324 to R327. -/
def Obligations.SemaphoreInstructionsFollowTheTable : Prop :=
  ∀ (k : BitVec 3) (rs : Reg) (s : State),
    isWordOf (0x00F2 ||| put 8 k) (.ssemImm k) ∧ isWordOf (0x00F3 ||| put 8 rs.bits) (.ssemReg rs) ∧
    isWordOf (0x00F0 ||| put 8 k) (.csemImm k) ∧ isWordOf (0x00F1 ||| put 8 rs.bits) (.csemReg rs) ∧
    (∃ t, exec (.ssemImm k) s = .next t ∧ s.afterSsem t k) ∧
    (∃ t, exec (.ssemReg rs) s = .next t ∧ s.afterSsem t (BitVec.ofNat 3 ((s.reg rs).toNat % 8))) ∧
    (∃ t, exec (.csemImm k) s = .next t ∧ s.afterCsem t k) ∧
    (∃ t, exec (.csemReg rs) s = .next t ∧ s.afterCsem t (BitVec.ofNat 3 ((s.reg rs).toNat % 8)))

/-- R320, R321, with set_flag of R322. -/
def Obligations.SifSetsAnImplementedFlag : Prop :=
  ∀ (rs : Reg) (s : State),
    isWordOf 0x0300 .sif ∧ isWordOf (0x00F7 ||| put 8 rs.bits) (.sifReg rs) ∧
    (∃ t, exec .sif s = .next t ∧ s.afterSif t s.xgchid.toNat) ∧
    (∃ t, exec (.sifReg rs) s = .next t ∧ s.afterSif t ((s.reg rs).toNat % 128))

/-- R332, R334. The count of requests sent is the model's record of an output (assumption log 30). -/
def Obligations.NopAndBrk : Prop :=
  isWordOf 0x0100 .nop ∧ isWordOf 0x0000 .brk ∧
  ∀ s : State, exec .nop s = .next { s with pc := s.pc + 2 } ∧
    exec .brk s = .next { s with xgdbg := true, breakReqs := s.breakReqs + 1 }

/-- R336, R337. That the registers and flags keep their values is the treatment U8 of the spec (assumption log 6). -/
def Obligations.RtsEndsTheThread : Prop :=
  isWordOf 0x0200 .rts ∧
  ∀ s : State, ∃ t, exec .rts s = .next t ∧ t.xgchid = 0 ∧ (∀ q, t.reg q = s.reg q) ∧ t.ccr = s.ccr ∧
    { t with xgchid := s.xgchid, pc := s.pc, draws := s.draws } = s ∧ s.sameRam t

/-- R53, R54. -/
def Obligations.HostSemaphoreAccess : Prop :=
  (∀ (v : Word) (s : State), ∃ t, applyEvent (.hostWriteWord 0x1A v) s = .next t ∧ { t with sem := s.sem } = s ∧
    ∀ k : BitVec 3,
      (v.getLsbD (8 + k.toNat) = false → t.sem.get k = s.sem.get k) ∧
      (v.getLsbD (8 + k.toNat) = true → v.getLsbD k.toNat = true →
        t.sem.get k = if s.sem.get k = .unlocked then .lockedCPU else s.sem.get k) ∧
      (v.getLsbD (8 + k.toNat) = true → v.getLsbD k.toNat = false →
        t.sem.get k = if s.sem.get k = .lockedCPU then .unlocked else s.sem.get k)) ∧
  ∀ s : State, ∃ t, applyEvent (.hostReadWord 0x1A) s = .next t ∧ t.sem = s.sem ∧ t.hostData.toNat < 256 ∧
    ∀ k : BitVec 3, t.hostData.getLsbD k.toNat = true ↔ s.sem.get k = .lockedCPU

/-- R346, with R98, R100 and R101. That a vector word is big-endian is the spec's own choice D1 (assumption log 2), that
XGCHID is written D18 (assumption log 16). The values of R2 to R7 and the flags are free (R23, R66, assumption log 4):
nothing is said of them. -/
def Obligations.ThreadStartLoadsTheVector : Prop :=
  ∀ (n : BitVec 7) (s : State) (v : Nat), v = s.xgvbr.toNat % 0x10000 / 2 * 2 + 4 * n.toNat → v + 3 < 0x10000 →
    ramReady s .word (BitVec.ofNat 16 v) → ramReady s .word (BitVec.ofNat 16 (v + 2)) →
    ∃ t, startThread n s = .next t ∧ t.xgchid = n ∧ t.pc.toNat = ramNumber s .word (BitVec.ofNat 16 v) ∧
      (t.reg .r1).toNat = ramNumber s .word (BitVec.ofNat 16 (v + 2)) ∧
      { t with xgchid := s.xgchid, regs := s.regs, pc := s.pc, ccr := s.ccr, draws := s.draws } = s ∧ s.sameRam t

/-- R341, R342, R343. The lines after routing and the gate by XGIE are the spec's choices D4 and D19 (assumption log 14). -/
def Obligations.PendingRequestsAreTheRoutedLines : Prop :=
  ∀ (s : State) (n : BitVec 7),
    (pendingRequests s).getLsbD n.toNat = true ↔
      implemented s.chip n.toNat ∧
      ((s.reqLines.getLsbD n.toNat = true ∧ n ∉ s.chip.swtCh) ∨
        ∃ k, k < 8 ∧ s.chip.swtCh[k]? = some n ∧ s.xgswt.getLsbD k = true ∧ s.triggerRoute.getLsbD k = true ∧
          (s.xgie = true ∨ s.chip.swtGatedByXgie = false))

/-- R97, R98, R347, R351, R352, R410. What the error leaves open is the spec's own choice D9, the moment of the $FFFE
error D10, that XGCHID shows the channel D18 (assumption log 5, 11, 16), what the failing fetch records the model's
(assumption log 40). -/
def Obligations.BadFetchesRaiseASoftwareError : Prop :=
  (∀ s : State, s.pc.toNat % 2 = 1 ∨ s.pc.toNat < 0x10000 - min s.chip.ramSize 0xF800 →
    ∃ t, executeOne s = .next t ∧ s.raised t [] s.pc) ∧
  (∀ s : State, s.pc = 0xFFFE → ramReady s .word s.pc →
    (∀ i, decodeWord (BitVec.ofNat 16 (ramNumber s .word s.pc)) = .ok i →
      ∃ t, executeOne s = .next t ∧ s.raised t (resultRegs i) 0x0000) ∧
    ((∀ i, decodeWord (BitVec.ofNat 16 (ramNumber s .word s.pc)) ≠ .ok i) →
      ∃ t, executeOne s = .next t ∧ s.raised t [] 0x0000)) ∧
  ∀ (n : BitVec 7) (s : State) (a : Word),
    a = BitVec.ofNat 16 (s.xgvbr.toNat % 0x10000 / 2 * 2 + 4 * n.toNat) →
    (a.toNat < 0x10000 - min s.chip.ramSize 0xF800 →
      ∃ t, startThread n s = .next t ∧ t.xgchid = n ∧ { s with xgchid := n }.raised t [.r1] a) ∧
    (ramReady s .word a → (a + 2).toNat < 0x10000 - min s.chip.ramSize 0xF800 →
      ∃ t, startThread n s = .next t ∧ t.xgchid = n ∧ { s with xgchid := n }.raised t [.r1] (a + 2))

/-- R354. -/
def Obligations.ClearingTheErrorFlagEndsTheThread : Prop :=
  ∀ (v : Byte) (s : State), v.getLsbD 1 = true → v.getLsbD 5 = false → v.getLsbD s.chip.xgssBit.index = false →
    ∃ t, applyEvent (.hostWriteByte 0x00 v) s = .next t ∧
      (s.xgsweif = true → t = { s with
        xge := v.getLsbD 7, xgfrz := v.getLsbD 6, xgie := v.getLsbD 0
        xgsweif := false, xgchid := 0, startPending := false }) ∧
      (s.xgsweif = false → t = { s with xge := v.getLsbD 7, xgfrz := v.getLsbD 6, xgie := v.getLsbD 0 })

/-- R349, with R354 "it does not end a healthy thread", the stepped RTS of R380 and the reset of R400, which the spec
states elsewhere. That a write of XGDBG halts a frozen core at once is its own choice D21, the conditions of the step
D23 (assumption log 17). -/
def Obligations.AThreadEndsInThreeWaysOnly : Prop :=
  ∀ s t : State, s.xgchid ≠ 0 → step s = .next t → t.xgchid = 0 →
    ((s.env = [] ∨ s.env.head? = some .core) ∧ s.xgdbg = false ∧ s.xgsweif = false ∧
      decodeWord (s.ramWord s.pc) = .ok .rts) ∨
    (∃ v : Byte, s.env.head? = some (.hostWriteByte 0x00 v) ∧
      ((v.getLsbD 1 = true ∧ t.xgsweif = false ∧
          ∃ u, applyEvent (.hostWriteByte 0x00 (v &&& 0xFD)) { s with env := s.env.tail } = .next u ∧ u.xgsweif = true) ∨
        (v.getLsbD s.chip.xgssBit.index = true ∧ decodeWord (s.ramWord s.pc) = .ok .rts ∧
          s.xgsweif = false ∧ s.chip.secured = false ∧ s.startPending = false ∧
          ((s.xgdbg = true ∧ ¬ (v.getLsbD 5 = true ∧ v.getLsbD 4 = false)) ∨
            (v.getLsbD 5 = true ∧ v.getLsbD 4 = true ∧ s.freezeInput = true ∧ v.getLsbD 6 = true))))) ∨
    (∃ v : Byte, s.env.head? = some (.hostWriteByte 0x02 v) ∧ s.xgdbg = true ∧ v.toNat % 128 = 0) ∨
    s.env.head? = some .reset

/-- R379 "Nothing else leaves debug mode", R38 "only a host write of 1 (or reset) clears it". -/
def Obligations.OnlyTheHostLeavesDebugModeAndClearsTheError : Prop :=
  ∀ s t : State, step s = .next t →
    (s.xgdbg = true → t.xgdbg = false →
      s.env.head? = some .reset ∨
      ∃ v : Byte, s.env.head? = some (.hostWriteByte 0x00 v) ∧ v.getLsbD 5 = true ∧ v.getLsbD 4 = false) ∧
    (s.xgsweif = true → t.xgsweif = false →
      s.env.head? = some .reset ∨ ∃ v : Byte, s.env.head? = some (.hostWriteByte 0x00 v) ∧ v.getLsbD 1 = true)

/-- R391 "What a thread cannot do is defined by what has no instruction", R322, R330, R351. A store of the core to these
registers is refused (assumption log 8). -/
def Obligations.InstructionsLeaveTheHostsControlAlone : Prop :=
  ∀ (i : Instr) (s t : State), exec i s = .next t →
    t.xge = s.xge ∧ t.xgfrz = s.xgfrz ∧ t.xgie = s.xgie ∧ t.xgvbr = s.xgvbr ∧ t.reqLines = s.reqLines ∧
    t.triggerRoute = s.triggerRoute ∧ t.freezeInput = s.freezeInput ∧ t.tagged = s.tagged ∧ t.dbgReq = s.dbgReq ∧
    t.startPending = s.startPending ∧ t.env = s.env ∧ t.chip = s.chip ∧ t.hostData = s.hostData ∧
    t.ramEpoch = s.ramEpoch ∧
    (∀ n, s.xgif.getLsbD n = true → t.xgif.getLsbD n = true) ∧
    (∀ k, t.sem.get k = .lockedCPU ↔ s.sem.get k = .lockedCPU) ∧
    (t.xgdbg = s.xgdbg ∨ (i = .brk ∧ t.xgdbg = true)) ∧
    (t.xgchid = s.xgchid ∨ (i = .rts ∧ t.xgchid = 0)) ∧
    (s.xgsweif = true → t.xgsweif = true) ∧
    (s.xgsweif = false → (t.xgsweif = true ↔ ∃ r rb ri off, ∃ e ∈ loadForms s r rb ri off ++ storeForms s r rb ri off,
      i = e.instr ∧ accessErrs s e.width e.address)) ∧
    (∀ n, s.xgif.getLsbD n = false → t.xgif.getLsbD n = true → i = .sif ∨ ∃ rs, i = .sifReg rs)

/-- R374, R377, R378. That entry is immediate where no instruction is in progress is the spec's own choice D21 (assumption
log 17), that a tag is dropped the model's (assumption log 18), that XGFRZ is written first the order of R40
(assumption log 27). -/
def Obligations.DebugRequestsWaitForTheInstruction : Prop :=
  ∀ s : State,
    ((s.xgdbg = true → applyEvent .forcedBreakpoint s = .next s) ∧
      (s.xgdbg = false → s.xgsweif = false → (s.freezeInput = false ∨ s.xgfrz = false) → s.xgchid ≠ 0 →
        applyEvent .forcedBreakpoint s = .next { s with dbgReq := true }) ∧
      (s.xgdbg = false → (s.xgsweif = true ∨ (s.freezeInput = true ∧ s.xgfrz = true) ∨ s.xgchid = 0) →
        applyEvent .forcedBreakpoint s = .next { s with xgdbg := true, tagged := false })) ∧
    ∀ v : Byte, v.getLsbD 5 = true → v.getLsbD 4 = true → v.getLsbD 1 = false → v.getLsbD s.chip.xgssBit.index = false →
      (s.xgdbg = true → applyEvent (.hostWriteByte 0x00 v) s = .next (s.withControl v)) ∧
      (s.xgdbg = false → s.xgsweif = false → (s.freezeInput = false ∨ v.getLsbD 6 = false) → s.xgchid ≠ 0 →
        applyEvent (.hostWriteByte 0x00 v) s = .next { s.withControl v with dbgReq := true }) ∧
      (s.xgdbg = false → (s.xgsweif = true ∨ (s.freezeInput = true ∧ v.getLsbD 6 = true) ∨ s.xgchid = 0) →
        applyEvent (.hostWriteByte 0x00 v) s = .next { s.withControl v with xgdbg := true, tagged := false })

/-- R42, R381. That any 7-bit value is stored is the spec's own choice D25 (assumption log 33). -/
def Obligations.ChannelIdWritesHaveThreeUses : Prop :=
  ∀ (v : Byte) (id : BitVec 7) (s : State), id.toNat = v.toNat % 128 →
    (s.xgdbg = false → applyEvent (.hostWriteByte 0x02 v) s = .next s) ∧
    (s.xgdbg = true → id ≠ 0 → s.xgchid ≠ 0 →
      applyEvent (.hostWriteByte 0x02 v) s = .next { s with xgchid := id }) ∧
    (s.xgdbg = true → id ≠ 0 → s.xgchid = 0 →
      applyEvent (.hostWriteByte 0x02 v) s = .next { s with xgchid := id, startPending := true }) ∧
    (s.xgdbg = true → id = 0 → s.xgchid ≠ 0 →
      applyEvent (.hostWriteByte 0x02 v) s = .next { s with xgchid := 0, startPending := false }) ∧
    (s.xgdbg = true → id = 0 → s.xgchid = 0 → applyEvent (.hostWriteByte 0x02 v) s = .next s)

/-- R379, with R40 and R354. The withdrawal is the spec's own choice D22, that no step follows D23 (assumption log 17),
the order of the effects R40's (assumption log 27). -/
def Obligations.LeavingDebugModeResumesOrStarts : Prop :=
  ∀ (s : State) (v : Byte), v.getLsbD 5 = true → v.getLsbD 4 = false →
    (s.xgdbg = true ∧ s.startPending = true →
      applyEvent (.hostWriteByte 0x00 v) s = clearingError v (startThread s.xgchid
        { s.withControl v with xgdbg := false, dbgReq := false, startPending := false })) ∧
    (s.xgdbg = false ∨ s.startPending = false →
      applyEvent (.hostWriteByte 0x00 v) s =
        clearingError v (.next { s.withControl v with xgdbg := false, dbgReq := false }))

/-- R380, with R40 and R354. When a step does nothing is the spec's own choice D23, the place of XGSS its parameter D7,
the order of the effects R40's (assumption log 17, 1, 27). -/
def Obligations.SingleStepRunsOneInstruction : Prop :=
  ∀ (s u : State) (v : Byte), v.getLsbD s.chip.xgssBit.index = true →
    applyEvent (.hostWriteByte 0x00 (v &&& ~~~(0x02#8 ||| (1#8 <<< s.chip.xgssBit.index)))) s = .next u →
    (v.getLsbD 5 = false → u = s.withControl v) ∧
    (u.xgdbg = true → u.xgsweif = false → u.chip.secured = false → u.xgchid ≠ 0 → u.startPending = false →
      applyEvent (.hostWriteByte 0x00 v) s = clearingError v (executeOne u) ∧
      ∀ t, executeOne u = .next t → t.xgdbg = true) ∧
    ((u.xgdbg = false ∨ u.xgsweif = true ∨ u.chip.secured = true ∨ u.xgchid = 0 ∨ u.startPending = true) →
      applyEvent (.hostWriteByte 0x00 v) s = clearingError v (.next u))

/-- R44. That the read-only bits are those at and above bit ceil(log2(RAM_SIZE)) is the spec's own derivation from its
table (N26), and the model's reading of it (assumption log 21). -/
def Obligations.VectorBaseIsWrittenWhenDisabledAndIdle : Prop :=
  ∀ (v : Word) (s : State), s.chip.wellFormed = true →
    ((s.xge = true ∨ s.xgchid ≠ 0) →
      applyEvent (.hostWriteWord 0x06 v) s = .next s ∧ applyEvent (.hostWriteWord 0x04 v) s = .next s) ∧
    (s.xge = false → s.xgchid = 0 →
      (∃ t, applyEvent (.hostWriteWord 0x06 v) s = .next t ∧ { t with xgvbr := s.xgvbr } = s ∧
        ∀ b, b < 32 → t.xgvbr.getLsbD b =
          if 1 ≤ b ∧ b ≤ 15 ∧ 2 ^ b < s.chip.ramSize then v.getLsbD b else s.xgvbr.getLsbD b) ∧
      (∃ t, applyEvent (.hostWriteWord 0x04 v) s = .next t ∧ { t with xgvbr := s.xgvbr } = s ∧
        ∀ b, b < 32 → t.xgvbr.getLsbD b =
          if 16 ≤ b ∧ b ≤ 19 ∧ 2 ^ b < s.chip.ramSize then v.getLsbD (b - 16) else s.xgvbr.getLsbD b))

/-- R47, at the places of R46. That a byte-wide write to XGIF is admitted is the decision D24 of R59 (assumption log 19). -/
def Obligations.HostClearsInterruptFlags : Prop :=
  (∀ (j : Nat) (v : Byte) (s : State), j < 16 →
    ∃ t, applyEvent (.hostWriteByte (BitVec.ofNat 6 (0x08 + j)) v) s = .next t ∧ { t with xgif := s.xgif } = s ∧
      ∀ n, n < 128 → t.xgif.getLsbD n = (s.xgif.getLsbD n && !(n / 8 == 15 - j && v.getLsbD (n % 8)))) ∧
  (∀ (j : Nat) (v : Word) (s : State), j < 8 →
    ∃ t, applyEvent (.hostWriteWord (BitVec.ofNat 6 (0x08 + 2 * j)) v) s = .next t ∧ { t with xgif := s.xgif } = s ∧
      ∀ n, n < 128 → t.xgif.getLsbD n = (s.xgif.getLsbD n && !(n / 16 == 7 - j && v.getLsbD (n % 16)))) ∧
  (∀ (j : Nat) (s : State), j < 8 →
    ∃ t, applyEvent (.hostReadWord (BitVec.ofNat 6 (0x08 + 2 * j))) s = .next t ∧ t.xgif = s.xgif ∧
      ∀ n, n < 128 → n / 16 = 7 - j →
        (t.hostData.getLsbD (n % 16) = true ↔ s.xgif.getLsbD n = true ∧ implemented s.chip n)) ∧
  ∀ (s t : State) (n : Nat), step s = .next t → s.xgif.getLsbD n = false → t.xgif.getLsbD n = true →
    (s.env = [] ∨ s.env.head? = some .core ∨
      ∃ v : Byte, s.env.head? = some (.hostWriteByte 0x00 v) ∧ v.getLsbD s.chip.xgssBit.index = true) ∧
    (decodeWord (s.ramWord s.pc) = .ok .sif ∨ ∃ rs, decodeWord (s.ramWord s.pc) = .ok (.sifReg rs))

/-- R49, R50, whose clause on byte writes the spec marks as derived. -/
def Obligations.HostSetsAndClearsTriggersUnderTheMask : Prop :=
  ∀ s : State,
    (∀ v : Word, ∃ t, applyEvent (.hostWriteWord 0x18 v) s = .next t ∧ { t with xgswt := s.xgswt } = s ∧
      ∀ k, k < 8 → t.xgswt.getLsbD k = if v.getLsbD (8 + k) then v.getLsbD k else s.xgswt.getLsbD k) ∧
    (∀ v : Byte, applyEvent (.hostWriteByte 0x18 v) s = .next s ∧ applyEvent (.hostWriteByte 0x19 v) s = .next s) ∧
    (∃ t, applyEvent (.hostReadWord 0x18) s = .next t ∧ t.hostData.toNat = s.xgswt.toNat ∧ t.xgswt = s.xgswt)

/-- R58 "Read: in Debug Mode if unsecured. Write: in Debug Mode if unsecured", for XGR1 to XGR7 at $20 + 2 n, XGPC at $1E
and XGCCR at $1D. That a read on an unsecured device outside debug mode completes, with a free value, is the spec's
own choice D13 (assumption log 20); that the device is secured is a constant, D17 (assumption log 32). -/
def Obligations.CoreRegistersThroughTheHostPort : Prop :=
  ∀ (s : State) (n : BitVec 3) (v : Word) (b : Byte), n ≠ 0 →
    (s.xgdbg = true → s.chip.secured = false →
      applyEvent (.hostWriteWord (BitVec.ofNat 6 (0x20 + 2 * n.toNat)) v) s = .next (s.setReg (Reg.ofBits n) v) ∧
      applyEvent (.hostWriteWord 0x1E v) s = .next { s with pc := v } ∧
      (∃ t, applyEvent (.hostWriteByte 0x1D b) s = .next t ∧ ccrNumber t.ccr = b.toNat % 16 ∧
        { t with ccr := s.ccr } = s) ∧
      (∃ t, applyEvent (.hostReadWord (BitVec.ofNat 6 (0x20 + 2 * n.toNat))) s = .next t ∧
        t.hostData = s.reg (Reg.ofBits n)) ∧
      (∃ t, applyEvent (.hostReadWord 0x1E) s = .next t ∧ t.hostData = s.pc) ∧
      (∃ t, applyEvent (.hostReadByte 0x1D) s = .next t ∧ t.hostData.toNat = ccrNumber s.ccr)) ∧
    (s.xgdbg = false ∨ s.chip.secured = true →
      applyEvent (.hostWriteWord (BitVec.ofNat 6 (0x20 + 2 * n.toNat)) v) s = .next s ∧
      applyEvent (.hostWriteWord 0x1E v) s = .next s ∧ applyEvent (.hostWriteByte 0x1D b) s = .next s) ∧
    (∃ t, applyEvent (.hostReadWord (BitVec.ofNat 6 (0x20 + 2 * n.toNat))) s = .next t ∧
      (s.chip.secured = true → t.hostData = 0)) ∧
    (∃ t, applyEvent (.hostReadWord 0x1E) s = .next t ∧ (s.chip.secured = true → t.hostData = 0)) ∧
    (∃ t, applyEvent (.hostReadByte 0x1D) s = .next t ∧ (s.chip.secured = true → t.hostData = 0))

/-- R362, R363, R364, R31. Whether XGIE gates a trigger's line is the parameter of D19, the routing an input of the model
(assumption log 14). -/
def Obligations.XgieMasksTheThreeInterrupts : Prop :=
  ∀ s : State,
    (∀ n, (channelIrq s).getLsbD n = true ↔ s.xgie = true ∧ s.xgif.getLsbD n = true ∧ implemented s.chip n) ∧
    (softwareErrorIrq s = true ↔ s.xgie = true ∧ s.xgsweif = true) ∧
    (∀ k, (triggerLine s k = true ↔
        s.xgswt.getLsbD k = true ∧ (s.xgie = true ∨ s.chip.swtGatedByXgie = false)) ∧
      (triggerIrq s k = true ↔ triggerLine s k = true ∧ s.triggerRoute.getLsbD k = false)) ∧
    ∃ t, applyEvent (.hostReadByte 0x00) s = .next t ∧
      t.hostData.toNat =
        128 * s.xge.toNat + 64 * s.xgfrz.toNat + 16 * s.xgdbg.toNat + 2 * s.xgsweif.toNat + s.xgie.toNat

end
end

