-- ==== Sys2Proof/Laws/State.lean ====
section
/-! SUPPORT. What each update of the state does to each field: one lemma a field, true by rfl, so that no proof unfolds a
record update. -/

namespace Sys2Proof.Machine

set_option Elab.async false

/-! ## setReg -/

@[simp] theorem setReg_regs (s : State) (r : Reg) (v : Word) : (s.setReg r v).regs = s.regs.set r v := rfl
@[simp] theorem setReg_pc (s : State) (r : Reg) (v : Word) : (s.setReg r v).pc = s.pc := rfl
@[simp] theorem setReg_ccr (s : State) (r : Reg) (v : Word) : (s.setReg r v).ccr = s.ccr := rfl
@[simp] theorem setReg_xge (s : State) (r : Reg) (v : Word) : (s.setReg r v).xge = s.xge := rfl
@[simp] theorem setReg_xgfrz (s : State) (r : Reg) (v : Word) : (s.setReg r v).xgfrz = s.xgfrz := rfl
@[simp] theorem setReg_xgdbg (s : State) (r : Reg) (v : Word) : (s.setReg r v).xgdbg = s.xgdbg := rfl
@[simp] theorem setReg_xgsweif (s : State) (r : Reg) (v : Word) : (s.setReg r v).xgsweif = s.xgsweif := rfl
@[simp] theorem setReg_xgie (s : State) (r : Reg) (v : Word) : (s.setReg r v).xgie = s.xgie := rfl
@[simp] theorem setReg_xgchid (s : State) (r : Reg) (v : Word) : (s.setReg r v).xgchid = s.xgchid := rfl
@[simp] theorem setReg_xgvbr (s : State) (r : Reg) (v : Word) : (s.setReg r v).xgvbr = s.xgvbr := rfl
@[simp] theorem setReg_xgif (s : State) (r : Reg) (v : Word) : (s.setReg r v).xgif = s.xgif := rfl
@[simp] theorem setReg_xgswt (s : State) (r : Reg) (v : Word) : (s.setReg r v).xgswt = s.xgswt := rfl
@[simp] theorem setReg_sem (s : State) (r : Reg) (v : Word) : (s.setReg r v).sem = s.sem := rfl
@[simp] theorem setReg_dbgReq (s : State) (r : Reg) (v : Word) : (s.setReg r v).dbgReq = s.dbgReq := rfl
@[simp] theorem setReg_startPending (s : State) (r : Reg) (v : Word) : (s.setReg r v).startPending = s.startPending := rfl
@[simp] theorem setReg_ram (s : State) (r : Reg) (v : Word) : (s.setReg r v).ram = s.ram := rfl
@[simp] theorem setReg_ramEpoch (s : State) (r : Reg) (v : Word) : (s.setReg r v).ramEpoch = s.ramEpoch := rfl
@[simp] theorem setReg_reqLines (s : State) (r : Reg) (v : Word) : (s.setReg r v).reqLines = s.reqLines := rfl
@[simp] theorem setReg_triggerRoute (s : State) (r : Reg) (v : Word) : (s.setReg r v).triggerRoute = s.triggerRoute := rfl
@[simp] theorem setReg_freezeInput (s : State) (r : Reg) (v : Word) : (s.setReg r v).freezeInput = s.freezeInput := rfl
@[simp] theorem setReg_tagged (s : State) (r : Reg) (v : Word) : (s.setReg r v).tagged = s.tagged := rfl
@[simp] theorem setReg_env (s : State) (r : Reg) (v : Word) : (s.setReg r v).env = s.env := rfl
@[simp] theorem setReg_periph (s : State) (r : Reg) (v : Word) : (s.setReg r v).periph = s.periph := rfl
@[simp] theorem setReg_breakReqs (s : State) (r : Reg) (v : Word) : (s.setReg r v).breakReqs = s.breakReqs := rfl
@[simp] theorem setReg_hostData (s : State) (r : Reg) (v : Word) : (s.setReg r v).hostData = s.hostData := rfl
@[simp] theorem setReg_draws (s : State) (r : Reg) (v : Word) : (s.setReg r v).draws = s.draws := rfl
@[simp] theorem setReg_chip (s : State) (r : Reg) (v : Word) : (s.setReg r v).chip = s.chip := rfl

/-! ## setCcr -/

@[simp] theorem setCcr_regs (s : State) (f : CCR) : (s.setCcr f).regs = s.regs := rfl
@[simp] theorem setCcr_pc (s : State) (f : CCR) : (s.setCcr f).pc = s.pc := rfl
@[simp] theorem setCcr_ccr (s : State) (f : CCR) : (s.setCcr f).ccr = f := rfl
@[simp] theorem setCcr_xge (s : State) (f : CCR) : (s.setCcr f).xge = s.xge := rfl
@[simp] theorem setCcr_xgfrz (s : State) (f : CCR) : (s.setCcr f).xgfrz = s.xgfrz := rfl
@[simp] theorem setCcr_xgdbg (s : State) (f : CCR) : (s.setCcr f).xgdbg = s.xgdbg := rfl
@[simp] theorem setCcr_xgsweif (s : State) (f : CCR) : (s.setCcr f).xgsweif = s.xgsweif := rfl
@[simp] theorem setCcr_xgie (s : State) (f : CCR) : (s.setCcr f).xgie = s.xgie := rfl
@[simp] theorem setCcr_xgchid (s : State) (f : CCR) : (s.setCcr f).xgchid = s.xgchid := rfl
@[simp] theorem setCcr_xgvbr (s : State) (f : CCR) : (s.setCcr f).xgvbr = s.xgvbr := rfl
@[simp] theorem setCcr_xgif (s : State) (f : CCR) : (s.setCcr f).xgif = s.xgif := rfl
@[simp] theorem setCcr_xgswt (s : State) (f : CCR) : (s.setCcr f).xgswt = s.xgswt := rfl
@[simp] theorem setCcr_sem (s : State) (f : CCR) : (s.setCcr f).sem = s.sem := rfl
@[simp] theorem setCcr_dbgReq (s : State) (f : CCR) : (s.setCcr f).dbgReq = s.dbgReq := rfl
@[simp] theorem setCcr_startPending (s : State) (f : CCR) : (s.setCcr f).startPending = s.startPending := rfl
@[simp] theorem setCcr_ram (s : State) (f : CCR) : (s.setCcr f).ram = s.ram := rfl
@[simp] theorem setCcr_ramEpoch (s : State) (f : CCR) : (s.setCcr f).ramEpoch = s.ramEpoch := rfl
@[simp] theorem setCcr_reqLines (s : State) (f : CCR) : (s.setCcr f).reqLines = s.reqLines := rfl
@[simp] theorem setCcr_triggerRoute (s : State) (f : CCR) : (s.setCcr f).triggerRoute = s.triggerRoute := rfl
@[simp] theorem setCcr_freezeInput (s : State) (f : CCR) : (s.setCcr f).freezeInput = s.freezeInput := rfl
@[simp] theorem setCcr_tagged (s : State) (f : CCR) : (s.setCcr f).tagged = s.tagged := rfl
@[simp] theorem setCcr_env (s : State) (f : CCR) : (s.setCcr f).env = s.env := rfl
@[simp] theorem setCcr_periph (s : State) (f : CCR) : (s.setCcr f).periph = s.periph := rfl
@[simp] theorem setCcr_breakReqs (s : State) (f : CCR) : (s.setCcr f).breakReqs = s.breakReqs := rfl
@[simp] theorem setCcr_hostData (s : State) (f : CCR) : (s.setCcr f).hostData = s.hostData := rfl
@[simp] theorem setCcr_draws (s : State) (f : CCR) : (s.setCcr f).draws = s.draws := rfl
@[simp] theorem setCcr_chip (s : State) (f : CCR) : (s.setCcr f).chip = s.chip := rfl

/-! ## setPc -/

@[simp] theorem setPc_regs (s : State) (t : Word) : (s.setPc t).regs = s.regs := rfl
@[simp] theorem setPc_pc (s : State) (t : Word) : (s.setPc t).pc = t := rfl
@[simp] theorem setPc_ccr (s : State) (t : Word) : (s.setPc t).ccr = s.ccr := rfl
@[simp] theorem setPc_xge (s : State) (t : Word) : (s.setPc t).xge = s.xge := rfl
@[simp] theorem setPc_xgfrz (s : State) (t : Word) : (s.setPc t).xgfrz = s.xgfrz := rfl
@[simp] theorem setPc_xgdbg (s : State) (t : Word) : (s.setPc t).xgdbg = s.xgdbg := rfl
@[simp] theorem setPc_xgsweif (s : State) (t : Word) : (s.setPc t).xgsweif = s.xgsweif := rfl
@[simp] theorem setPc_xgie (s : State) (t : Word) : (s.setPc t).xgie = s.xgie := rfl
@[simp] theorem setPc_xgchid (s : State) (t : Word) : (s.setPc t).xgchid = s.xgchid := rfl
@[simp] theorem setPc_xgvbr (s : State) (t : Word) : (s.setPc t).xgvbr = s.xgvbr := rfl
@[simp] theorem setPc_xgif (s : State) (t : Word) : (s.setPc t).xgif = s.xgif := rfl
@[simp] theorem setPc_xgswt (s : State) (t : Word) : (s.setPc t).xgswt = s.xgswt := rfl
@[simp] theorem setPc_sem (s : State) (t : Word) : (s.setPc t).sem = s.sem := rfl
@[simp] theorem setPc_dbgReq (s : State) (t : Word) : (s.setPc t).dbgReq = s.dbgReq := rfl
@[simp] theorem setPc_startPending (s : State) (t : Word) : (s.setPc t).startPending = s.startPending := rfl
@[simp] theorem setPc_ram (s : State) (t : Word) : (s.setPc t).ram = s.ram := rfl
@[simp] theorem setPc_ramEpoch (s : State) (t : Word) : (s.setPc t).ramEpoch = s.ramEpoch := rfl
@[simp] theorem setPc_reqLines (s : State) (t : Word) : (s.setPc t).reqLines = s.reqLines := rfl
@[simp] theorem setPc_triggerRoute (s : State) (t : Word) : (s.setPc t).triggerRoute = s.triggerRoute := rfl
@[simp] theorem setPc_freezeInput (s : State) (t : Word) : (s.setPc t).freezeInput = s.freezeInput := rfl
@[simp] theorem setPc_tagged (s : State) (t : Word) : (s.setPc t).tagged = s.tagged := rfl
@[simp] theorem setPc_env (s : State) (t : Word) : (s.setPc t).env = s.env := rfl
@[simp] theorem setPc_periph (s : State) (t : Word) : (s.setPc t).periph = s.periph := rfl
@[simp] theorem setPc_breakReqs (s : State) (t : Word) : (s.setPc t).breakReqs = s.breakReqs := rfl
@[simp] theorem setPc_hostData (s : State) (t : Word) : (s.setPc t).hostData = s.hostData := rfl
@[simp] theorem setPc_draws (s : State) (t : Word) : (s.setPc t).draws = s.draws := rfl
@[simp] theorem setPc_chip (s : State) (t : Word) : (s.setPc t).chip = s.chip := rfl

/-! ## advance -/

@[simp] theorem advance_regs (s : State) : (s.advance).regs = s.regs := rfl
@[simp] theorem advance_pc (s : State) : (s.advance).pc = s.pc + 2 := rfl
@[simp] theorem advance_ccr (s : State) : (s.advance).ccr = s.ccr := rfl
@[simp] theorem advance_xge (s : State) : (s.advance).xge = s.xge := rfl
@[simp] theorem advance_xgfrz (s : State) : (s.advance).xgfrz = s.xgfrz := rfl
@[simp] theorem advance_xgdbg (s : State) : (s.advance).xgdbg = s.xgdbg := rfl
@[simp] theorem advance_xgsweif (s : State) : (s.advance).xgsweif = s.xgsweif := rfl
@[simp] theorem advance_xgie (s : State) : (s.advance).xgie = s.xgie := rfl
@[simp] theorem advance_xgchid (s : State) : (s.advance).xgchid = s.xgchid := rfl
@[simp] theorem advance_xgvbr (s : State) : (s.advance).xgvbr = s.xgvbr := rfl
@[simp] theorem advance_xgif (s : State) : (s.advance).xgif = s.xgif := rfl
@[simp] theorem advance_xgswt (s : State) : (s.advance).xgswt = s.xgswt := rfl
@[simp] theorem advance_sem (s : State) : (s.advance).sem = s.sem := rfl
@[simp] theorem advance_dbgReq (s : State) : (s.advance).dbgReq = s.dbgReq := rfl
@[simp] theorem advance_startPending (s : State) : (s.advance).startPending = s.startPending := rfl
@[simp] theorem advance_ram (s : State) : (s.advance).ram = s.ram := rfl
@[simp] theorem advance_ramEpoch (s : State) : (s.advance).ramEpoch = s.ramEpoch := rfl
@[simp] theorem advance_reqLines (s : State) : (s.advance).reqLines = s.reqLines := rfl
@[simp] theorem advance_triggerRoute (s : State) : (s.advance).triggerRoute = s.triggerRoute := rfl
@[simp] theorem advance_freezeInput (s : State) : (s.advance).freezeInput = s.freezeInput := rfl
@[simp] theorem advance_tagged (s : State) : (s.advance).tagged = s.tagged := rfl
@[simp] theorem advance_env (s : State) : (s.advance).env = s.env := rfl
@[simp] theorem advance_periph (s : State) : (s.advance).periph = s.periph := rfl
@[simp] theorem advance_breakReqs (s : State) : (s.advance).breakReqs = s.breakReqs := rfl
@[simp] theorem advance_hostData (s : State) : (s.advance).hostData = s.hostData := rfl
@[simp] theorem advance_draws (s : State) : (s.advance).draws = s.draws := rfl
@[simp] theorem advance_chip (s : State) : (s.advance).chip = s.chip := rfl

/-! ## writeResult -/

@[simp] theorem writeResult_regs (s : State) (rd : Reg) (r : Word) (f : CCR) : (s.writeResult rd r f).regs = s.regs.set rd r := rfl
@[simp] theorem writeResult_pc (s : State) (rd : Reg) (r : Word) (f : CCR) : (s.writeResult rd r f).pc = s.pc + 2 := rfl
@[simp] theorem writeResult_ccr (s : State) (rd : Reg) (r : Word) (f : CCR) : (s.writeResult rd r f).ccr = f := rfl
@[simp] theorem writeResult_xge (s : State) (rd : Reg) (r : Word) (f : CCR) : (s.writeResult rd r f).xge = s.xge := rfl
@[simp] theorem writeResult_xgfrz (s : State) (rd : Reg) (r : Word) (f : CCR) : (s.writeResult rd r f).xgfrz = s.xgfrz := rfl
@[simp] theorem writeResult_xgdbg (s : State) (rd : Reg) (r : Word) (f : CCR) : (s.writeResult rd r f).xgdbg = s.xgdbg := rfl
@[simp] theorem writeResult_xgsweif (s : State) (rd : Reg) (r : Word) (f : CCR) : (s.writeResult rd r f).xgsweif = s.xgsweif := rfl
@[simp] theorem writeResult_xgie (s : State) (rd : Reg) (r : Word) (f : CCR) : (s.writeResult rd r f).xgie = s.xgie := rfl
@[simp] theorem writeResult_xgchid (s : State) (rd : Reg) (r : Word) (f : CCR) : (s.writeResult rd r f).xgchid = s.xgchid := rfl
@[simp] theorem writeResult_xgvbr (s : State) (rd : Reg) (r : Word) (f : CCR) : (s.writeResult rd r f).xgvbr = s.xgvbr := rfl
@[simp] theorem writeResult_xgif (s : State) (rd : Reg) (r : Word) (f : CCR) : (s.writeResult rd r f).xgif = s.xgif := rfl
@[simp] theorem writeResult_xgswt (s : State) (rd : Reg) (r : Word) (f : CCR) : (s.writeResult rd r f).xgswt = s.xgswt := rfl
@[simp] theorem writeResult_sem (s : State) (rd : Reg) (r : Word) (f : CCR) : (s.writeResult rd r f).sem = s.sem := rfl
@[simp] theorem writeResult_dbgReq (s : State) (rd : Reg) (r : Word) (f : CCR) : (s.writeResult rd r f).dbgReq = s.dbgReq := rfl
@[simp] theorem writeResult_startPending (s : State) (rd : Reg) (r : Word) (f : CCR) : (s.writeResult rd r f).startPending = s.startPending := rfl
@[simp] theorem writeResult_ram (s : State) (rd : Reg) (r : Word) (f : CCR) : (s.writeResult rd r f).ram = s.ram := rfl
@[simp] theorem writeResult_ramEpoch (s : State) (rd : Reg) (r : Word) (f : CCR) : (s.writeResult rd r f).ramEpoch = s.ramEpoch := rfl
@[simp] theorem writeResult_reqLines (s : State) (rd : Reg) (r : Word) (f : CCR) : (s.writeResult rd r f).reqLines = s.reqLines := rfl
@[simp] theorem writeResult_triggerRoute (s : State) (rd : Reg) (r : Word) (f : CCR) : (s.writeResult rd r f).triggerRoute = s.triggerRoute := rfl
@[simp] theorem writeResult_freezeInput (s : State) (rd : Reg) (r : Word) (f : CCR) : (s.writeResult rd r f).freezeInput = s.freezeInput := rfl
@[simp] theorem writeResult_tagged (s : State) (rd : Reg) (r : Word) (f : CCR) : (s.writeResult rd r f).tagged = s.tagged := rfl
@[simp] theorem writeResult_env (s : State) (rd : Reg) (r : Word) (f : CCR) : (s.writeResult rd r f).env = s.env := rfl
@[simp] theorem writeResult_periph (s : State) (rd : Reg) (r : Word) (f : CCR) : (s.writeResult rd r f).periph = s.periph := rfl
@[simp] theorem writeResult_breakReqs (s : State) (rd : Reg) (r : Word) (f : CCR) : (s.writeResult rd r f).breakReqs = s.breakReqs := rfl
@[simp] theorem writeResult_hostData (s : State) (rd : Reg) (r : Word) (f : CCR) : (s.writeResult rd r f).hostData = s.hostData := rfl
@[simp] theorem writeResult_draws (s : State) (rd : Reg) (r : Word) (f : CCR) : (s.writeResult rd r f).draws = s.draws := rfl
@[simp] theorem writeResult_chip (s : State) (rd : Reg) (r : Word) (f : CCR) : (s.writeResult rd r f).chip = s.chip := rfl

/-! ## setGlobalByte -/

@[simp] theorem setGlobalByte_regs (s : State) (g : BitVec 20) (v : Byte) : (s.setGlobalByte g v).regs = s.regs := rfl
@[simp] theorem setGlobalByte_pc (s : State) (g : BitVec 20) (v : Byte) : (s.setGlobalByte g v).pc = s.pc := rfl
@[simp] theorem setGlobalByte_ccr (s : State) (g : BitVec 20) (v : Byte) : (s.setGlobalByte g v).ccr = s.ccr := rfl
@[simp] theorem setGlobalByte_xge (s : State) (g : BitVec 20) (v : Byte) : (s.setGlobalByte g v).xge = s.xge := rfl
@[simp] theorem setGlobalByte_xgfrz (s : State) (g : BitVec 20) (v : Byte) : (s.setGlobalByte g v).xgfrz = s.xgfrz := rfl
@[simp] theorem setGlobalByte_xgdbg (s : State) (g : BitVec 20) (v : Byte) : (s.setGlobalByte g v).xgdbg = s.xgdbg := rfl
@[simp] theorem setGlobalByte_xgsweif (s : State) (g : BitVec 20) (v : Byte) : (s.setGlobalByte g v).xgsweif = s.xgsweif := rfl
@[simp] theorem setGlobalByte_xgie (s : State) (g : BitVec 20) (v : Byte) : (s.setGlobalByte g v).xgie = s.xgie := rfl
@[simp] theorem setGlobalByte_xgchid (s : State) (g : BitVec 20) (v : Byte) : (s.setGlobalByte g v).xgchid = s.xgchid := rfl
@[simp] theorem setGlobalByte_xgvbr (s : State) (g : BitVec 20) (v : Byte) : (s.setGlobalByte g v).xgvbr = s.xgvbr := rfl
@[simp] theorem setGlobalByte_xgif (s : State) (g : BitVec 20) (v : Byte) : (s.setGlobalByte g v).xgif = s.xgif := rfl
@[simp] theorem setGlobalByte_xgswt (s : State) (g : BitVec 20) (v : Byte) : (s.setGlobalByte g v).xgswt = s.xgswt := rfl
@[simp] theorem setGlobalByte_sem (s : State) (g : BitVec 20) (v : Byte) : (s.setGlobalByte g v).sem = s.sem := rfl
@[simp] theorem setGlobalByte_dbgReq (s : State) (g : BitVec 20) (v : Byte) : (s.setGlobalByte g v).dbgReq = s.dbgReq := rfl
@[simp] theorem setGlobalByte_startPending (s : State) (g : BitVec 20) (v : Byte) : (s.setGlobalByte g v).startPending = s.startPending := rfl
@[simp] theorem setGlobalByte_ram (s : State) (g : BitVec 20) (v : Byte) : (s.setGlobalByte g v).ram = Memory.write s.ram g.toNat v := rfl
@[simp] theorem setGlobalByte_ramEpoch (s : State) (g : BitVec 20) (v : Byte) : (s.setGlobalByte g v).ramEpoch = s.ramEpoch := rfl
@[simp] theorem setGlobalByte_reqLines (s : State) (g : BitVec 20) (v : Byte) : (s.setGlobalByte g v).reqLines = s.reqLines := rfl
@[simp] theorem setGlobalByte_triggerRoute (s : State) (g : BitVec 20) (v : Byte) : (s.setGlobalByte g v).triggerRoute = s.triggerRoute := rfl
@[simp] theorem setGlobalByte_freezeInput (s : State) (g : BitVec 20) (v : Byte) : (s.setGlobalByte g v).freezeInput = s.freezeInput := rfl
@[simp] theorem setGlobalByte_tagged (s : State) (g : BitVec 20) (v : Byte) : (s.setGlobalByte g v).tagged = s.tagged := rfl
@[simp] theorem setGlobalByte_env (s : State) (g : BitVec 20) (v : Byte) : (s.setGlobalByte g v).env = s.env := rfl
@[simp] theorem setGlobalByte_periph (s : State) (g : BitVec 20) (v : Byte) : (s.setGlobalByte g v).periph = s.periph := rfl
@[simp] theorem setGlobalByte_breakReqs (s : State) (g : BitVec 20) (v : Byte) : (s.setGlobalByte g v).breakReqs = s.breakReqs := rfl
@[simp] theorem setGlobalByte_hostData (s : State) (g : BitVec 20) (v : Byte) : (s.setGlobalByte g v).hostData = s.hostData := rfl
@[simp] theorem setGlobalByte_draws (s : State) (g : BitVec 20) (v : Byte) : (s.setGlobalByte g v).draws = s.draws := rfl
@[simp] theorem setGlobalByte_chip (s : State) (g : BitVec 20) (v : Byte) : (s.setGlobalByte g v).chip = s.chip := rfl

/-! ## setRamByte -/

@[simp] theorem setRamByte_regs (s : State) (a : Word) (v : Byte) : (s.setRamByte a v).regs = s.regs := rfl
@[simp] theorem setRamByte_pc (s : State) (a : Word) (v : Byte) : (s.setRamByte a v).pc = s.pc := rfl
@[simp] theorem setRamByte_ccr (s : State) (a : Word) (v : Byte) : (s.setRamByte a v).ccr = s.ccr := rfl
@[simp] theorem setRamByte_xge (s : State) (a : Word) (v : Byte) : (s.setRamByte a v).xge = s.xge := rfl
@[simp] theorem setRamByte_xgfrz (s : State) (a : Word) (v : Byte) : (s.setRamByte a v).xgfrz = s.xgfrz := rfl
@[simp] theorem setRamByte_xgdbg (s : State) (a : Word) (v : Byte) : (s.setRamByte a v).xgdbg = s.xgdbg := rfl
@[simp] theorem setRamByte_xgsweif (s : State) (a : Word) (v : Byte) : (s.setRamByte a v).xgsweif = s.xgsweif := rfl
@[simp] theorem setRamByte_xgie (s : State) (a : Word) (v : Byte) : (s.setRamByte a v).xgie = s.xgie := rfl
@[simp] theorem setRamByte_xgchid (s : State) (a : Word) (v : Byte) : (s.setRamByte a v).xgchid = s.xgchid := rfl
@[simp] theorem setRamByte_xgvbr (s : State) (a : Word) (v : Byte) : (s.setRamByte a v).xgvbr = s.xgvbr := rfl
@[simp] theorem setRamByte_xgif (s : State) (a : Word) (v : Byte) : (s.setRamByte a v).xgif = s.xgif := rfl
@[simp] theorem setRamByte_xgswt (s : State) (a : Word) (v : Byte) : (s.setRamByte a v).xgswt = s.xgswt := rfl
@[simp] theorem setRamByte_sem (s : State) (a : Word) (v : Byte) : (s.setRamByte a v).sem = s.sem := rfl
@[simp] theorem setRamByte_dbgReq (s : State) (a : Word) (v : Byte) : (s.setRamByte a v).dbgReq = s.dbgReq := rfl
@[simp] theorem setRamByte_startPending (s : State) (a : Word) (v : Byte) : (s.setRamByte a v).startPending = s.startPending := rfl
@[simp] theorem setRamByte_ram (s : State) (a : Word) (v : Byte) : (s.setRamByte a v).ram = Memory.write s.ram (globalAddress s.chip s.xgvbr a).toNat v := rfl
@[simp] theorem setRamByte_ramEpoch (s : State) (a : Word) (v : Byte) : (s.setRamByte a v).ramEpoch = s.ramEpoch := rfl
@[simp] theorem setRamByte_reqLines (s : State) (a : Word) (v : Byte) : (s.setRamByte a v).reqLines = s.reqLines := rfl
@[simp] theorem setRamByte_triggerRoute (s : State) (a : Word) (v : Byte) : (s.setRamByte a v).triggerRoute = s.triggerRoute := rfl
@[simp] theorem setRamByte_freezeInput (s : State) (a : Word) (v : Byte) : (s.setRamByte a v).freezeInput = s.freezeInput := rfl
@[simp] theorem setRamByte_tagged (s : State) (a : Word) (v : Byte) : (s.setRamByte a v).tagged = s.tagged := rfl
@[simp] theorem setRamByte_env (s : State) (a : Word) (v : Byte) : (s.setRamByte a v).env = s.env := rfl
@[simp] theorem setRamByte_periph (s : State) (a : Word) (v : Byte) : (s.setRamByte a v).periph = s.periph := rfl
@[simp] theorem setRamByte_breakReqs (s : State) (a : Word) (v : Byte) : (s.setRamByte a v).breakReqs = s.breakReqs := rfl
@[simp] theorem setRamByte_hostData (s : State) (a : Word) (v : Byte) : (s.setRamByte a v).hostData = s.hostData := rfl
@[simp] theorem setRamByte_draws (s : State) (a : Word) (v : Byte) : (s.setRamByte a v).draws = s.draws := rfl
@[simp] theorem setRamByte_chip (s : State) (a : Word) (v : Byte) : (s.setRamByte a v).chip = s.chip := rfl

/-! ## setRamWord -/

@[simp] theorem setRamWord_regs (s : State) (a v : Word) : (s.setRamWord a v).regs = s.regs := rfl
@[simp] theorem setRamWord_pc (s : State) (a v : Word) : (s.setRamWord a v).pc = s.pc := rfl
@[simp] theorem setRamWord_ccr (s : State) (a v : Word) : (s.setRamWord a v).ccr = s.ccr := rfl
@[simp] theorem setRamWord_xge (s : State) (a v : Word) : (s.setRamWord a v).xge = s.xge := rfl
@[simp] theorem setRamWord_xgfrz (s : State) (a v : Word) : (s.setRamWord a v).xgfrz = s.xgfrz := rfl
@[simp] theorem setRamWord_xgdbg (s : State) (a v : Word) : (s.setRamWord a v).xgdbg = s.xgdbg := rfl
@[simp] theorem setRamWord_xgsweif (s : State) (a v : Word) : (s.setRamWord a v).xgsweif = s.xgsweif := rfl
@[simp] theorem setRamWord_xgie (s : State) (a v : Word) : (s.setRamWord a v).xgie = s.xgie := rfl
@[simp] theorem setRamWord_xgchid (s : State) (a v : Word) : (s.setRamWord a v).xgchid = s.xgchid := rfl
@[simp] theorem setRamWord_xgvbr (s : State) (a v : Word) : (s.setRamWord a v).xgvbr = s.xgvbr := rfl
@[simp] theorem setRamWord_xgif (s : State) (a v : Word) : (s.setRamWord a v).xgif = s.xgif := rfl
@[simp] theorem setRamWord_xgswt (s : State) (a v : Word) : (s.setRamWord a v).xgswt = s.xgswt := rfl
@[simp] theorem setRamWord_sem (s : State) (a v : Word) : (s.setRamWord a v).sem = s.sem := rfl
@[simp] theorem setRamWord_dbgReq (s : State) (a v : Word) : (s.setRamWord a v).dbgReq = s.dbgReq := rfl
@[simp] theorem setRamWord_startPending (s : State) (a v : Word) : (s.setRamWord a v).startPending = s.startPending := rfl
@[simp] theorem setRamWord_ram (s : State) (a v : Word) : (s.setRamWord a v).ram = ((s.setRamByte a (highByte v)).setRamByte (a + 1) (lowByte v)).ram := rfl
@[simp] theorem setRamWord_ramEpoch (s : State) (a v : Word) : (s.setRamWord a v).ramEpoch = s.ramEpoch := rfl
@[simp] theorem setRamWord_reqLines (s : State) (a v : Word) : (s.setRamWord a v).reqLines = s.reqLines := rfl
@[simp] theorem setRamWord_triggerRoute (s : State) (a v : Word) : (s.setRamWord a v).triggerRoute = s.triggerRoute := rfl
@[simp] theorem setRamWord_freezeInput (s : State) (a v : Word) : (s.setRamWord a v).freezeInput = s.freezeInput := rfl
@[simp] theorem setRamWord_tagged (s : State) (a v : Word) : (s.setRamWord a v).tagged = s.tagged := rfl
@[simp] theorem setRamWord_env (s : State) (a v : Word) : (s.setRamWord a v).env = s.env := rfl
@[simp] theorem setRamWord_periph (s : State) (a v : Word) : (s.setRamWord a v).periph = s.periph := rfl
@[simp] theorem setRamWord_breakReqs (s : State) (a v : Word) : (s.setRamWord a v).breakReqs = s.breakReqs := rfl
@[simp] theorem setRamWord_hostData (s : State) (a v : Word) : (s.setRamWord a v).hostData = s.hostData := rfl
@[simp] theorem setRamWord_draws (s : State) (a v : Word) : (s.setRamWord a v).draws = s.draws := rfl
@[simp] theorem setRamWord_chip (s : State) (a v : Word) : (s.setRamWord a v).chip = s.chip := rfl

/-! ## ramWrite -/

@[simp] theorem ramWrite_regs (s : State) (w : Width) (a v : Word) : (s.ramWrite w a v).regs = s.regs := by cases w <;> rfl
@[simp] theorem ramWrite_pc (s : State) (w : Width) (a v : Word) : (s.ramWrite w a v).pc = s.pc := by cases w <;> rfl
@[simp] theorem ramWrite_ccr (s : State) (w : Width) (a v : Word) : (s.ramWrite w a v).ccr = s.ccr := by cases w <;> rfl
@[simp] theorem ramWrite_xge (s : State) (w : Width) (a v : Word) : (s.ramWrite w a v).xge = s.xge := by cases w <;> rfl
@[simp] theorem ramWrite_xgfrz (s : State) (w : Width) (a v : Word) : (s.ramWrite w a v).xgfrz = s.xgfrz := by cases w <;> rfl
@[simp] theorem ramWrite_xgdbg (s : State) (w : Width) (a v : Word) : (s.ramWrite w a v).xgdbg = s.xgdbg := by cases w <;> rfl
@[simp] theorem ramWrite_xgsweif (s : State) (w : Width) (a v : Word) : (s.ramWrite w a v).xgsweif = s.xgsweif := by cases w <;> rfl
@[simp] theorem ramWrite_xgie (s : State) (w : Width) (a v : Word) : (s.ramWrite w a v).xgie = s.xgie := by cases w <;> rfl
@[simp] theorem ramWrite_xgchid (s : State) (w : Width) (a v : Word) : (s.ramWrite w a v).xgchid = s.xgchid := by cases w <;> rfl
@[simp] theorem ramWrite_xgvbr (s : State) (w : Width) (a v : Word) : (s.ramWrite w a v).xgvbr = s.xgvbr := by cases w <;> rfl
@[simp] theorem ramWrite_xgif (s : State) (w : Width) (a v : Word) : (s.ramWrite w a v).xgif = s.xgif := by cases w <;> rfl
@[simp] theorem ramWrite_xgswt (s : State) (w : Width) (a v : Word) : (s.ramWrite w a v).xgswt = s.xgswt := by cases w <;> rfl
@[simp] theorem ramWrite_sem (s : State) (w : Width) (a v : Word) : (s.ramWrite w a v).sem = s.sem := by cases w <;> rfl
@[simp] theorem ramWrite_dbgReq (s : State) (w : Width) (a v : Word) : (s.ramWrite w a v).dbgReq = s.dbgReq := by cases w <;> rfl
@[simp] theorem ramWrite_startPending (s : State) (w : Width) (a v : Word) : (s.ramWrite w a v).startPending = s.startPending := by cases w <;> rfl
@[simp] theorem ramWrite_ramEpoch (s : State) (w : Width) (a v : Word) : (s.ramWrite w a v).ramEpoch = s.ramEpoch := by cases w <;> rfl
@[simp] theorem ramWrite_reqLines (s : State) (w : Width) (a v : Word) : (s.ramWrite w a v).reqLines = s.reqLines := by cases w <;> rfl
@[simp] theorem ramWrite_triggerRoute (s : State) (w : Width) (a v : Word) : (s.ramWrite w a v).triggerRoute = s.triggerRoute := by cases w <;> rfl
@[simp] theorem ramWrite_freezeInput (s : State) (w : Width) (a v : Word) : (s.ramWrite w a v).freezeInput = s.freezeInput := by cases w <;> rfl
@[simp] theorem ramWrite_tagged (s : State) (w : Width) (a v : Word) : (s.ramWrite w a v).tagged = s.tagged := by cases w <;> rfl
@[simp] theorem ramWrite_env (s : State) (w : Width) (a v : Word) : (s.ramWrite w a v).env = s.env := by cases w <;> rfl
@[simp] theorem ramWrite_periph (s : State) (w : Width) (a v : Word) : (s.ramWrite w a v).periph = s.periph := by cases w <;> rfl
@[simp] theorem ramWrite_breakReqs (s : State) (w : Width) (a v : Word) : (s.ramWrite w a v).breakReqs = s.breakReqs := by cases w <;> rfl
@[simp] theorem ramWrite_hostData (s : State) (w : Width) (a v : Word) : (s.ramWrite w a v).hostData = s.hostData := by cases w <;> rfl
@[simp] theorem ramWrite_draws (s : State) (w : Width) (a v : Word) : (s.ramWrite w a v).draws = s.draws := by cases w <;> rfl
@[simp] theorem ramWrite_chip (s : State) (w : Width) (a v : Word) : (s.ramWrite w a v).chip = s.chip := by cases w <;> rfl

/-! ## postIncrement -/

@[simp] theorem postIncrement_regs (w : Width) (ri : Reg) (s : State) : (postIncrement w ri s).regs = s.regs.set ri (s.reg ri + accessSize w) := rfl
@[simp] theorem postIncrement_pc (w : Width) (ri : Reg) (s : State) : (postIncrement w ri s).pc = s.pc := rfl
@[simp] theorem postIncrement_ccr (w : Width) (ri : Reg) (s : State) : (postIncrement w ri s).ccr = s.ccr := rfl
@[simp] theorem postIncrement_xge (w : Width) (ri : Reg) (s : State) : (postIncrement w ri s).xge = s.xge := rfl
@[simp] theorem postIncrement_xgfrz (w : Width) (ri : Reg) (s : State) : (postIncrement w ri s).xgfrz = s.xgfrz := rfl
@[simp] theorem postIncrement_xgdbg (w : Width) (ri : Reg) (s : State) : (postIncrement w ri s).xgdbg = s.xgdbg := rfl
@[simp] theorem postIncrement_xgsweif (w : Width) (ri : Reg) (s : State) : (postIncrement w ri s).xgsweif = s.xgsweif := rfl
@[simp] theorem postIncrement_xgie (w : Width) (ri : Reg) (s : State) : (postIncrement w ri s).xgie = s.xgie := rfl
@[simp] theorem postIncrement_xgchid (w : Width) (ri : Reg) (s : State) : (postIncrement w ri s).xgchid = s.xgchid := rfl
@[simp] theorem postIncrement_xgvbr (w : Width) (ri : Reg) (s : State) : (postIncrement w ri s).xgvbr = s.xgvbr := rfl
@[simp] theorem postIncrement_xgif (w : Width) (ri : Reg) (s : State) : (postIncrement w ri s).xgif = s.xgif := rfl
@[simp] theorem postIncrement_xgswt (w : Width) (ri : Reg) (s : State) : (postIncrement w ri s).xgswt = s.xgswt := rfl
@[simp] theorem postIncrement_sem (w : Width) (ri : Reg) (s : State) : (postIncrement w ri s).sem = s.sem := rfl
@[simp] theorem postIncrement_dbgReq (w : Width) (ri : Reg) (s : State) : (postIncrement w ri s).dbgReq = s.dbgReq := rfl
@[simp] theorem postIncrement_startPending (w : Width) (ri : Reg) (s : State) : (postIncrement w ri s).startPending = s.startPending := rfl
@[simp] theorem postIncrement_ram (w : Width) (ri : Reg) (s : State) : (postIncrement w ri s).ram = s.ram := rfl
@[simp] theorem postIncrement_ramEpoch (w : Width) (ri : Reg) (s : State) : (postIncrement w ri s).ramEpoch = s.ramEpoch := rfl
@[simp] theorem postIncrement_reqLines (w : Width) (ri : Reg) (s : State) : (postIncrement w ri s).reqLines = s.reqLines := rfl
@[simp] theorem postIncrement_triggerRoute (w : Width) (ri : Reg) (s : State) : (postIncrement w ri s).triggerRoute = s.triggerRoute := rfl
@[simp] theorem postIncrement_freezeInput (w : Width) (ri : Reg) (s : State) : (postIncrement w ri s).freezeInput = s.freezeInput := rfl
@[simp] theorem postIncrement_tagged (w : Width) (ri : Reg) (s : State) : (postIncrement w ri s).tagged = s.tagged := rfl
@[simp] theorem postIncrement_env (w : Width) (ri : Reg) (s : State) : (postIncrement w ri s).env = s.env := rfl
@[simp] theorem postIncrement_periph (w : Width) (ri : Reg) (s : State) : (postIncrement w ri s).periph = s.periph := rfl
@[simp] theorem postIncrement_breakReqs (w : Width) (ri : Reg) (s : State) : (postIncrement w ri s).breakReqs = s.breakReqs := rfl
@[simp] theorem postIncrement_hostData (w : Width) (ri : Reg) (s : State) : (postIncrement w ri s).hostData = s.hostData := rfl
@[simp] theorem postIncrement_draws (w : Width) (ri : Reg) (s : State) : (postIncrement w ri s).draws = s.draws := rfl
@[simp] theorem postIncrement_chip (w : Width) (ri : Reg) (s : State) : (postIncrement w ri s).chip = s.chip := rfl

/-! ## preDecrement -/

@[simp] theorem preDecrement_regs (w : Width) (ri : Reg) (s : State) : (preDecrement w ri s).regs = s.regs.set ri (s.reg ri - accessSize w) := rfl
@[simp] theorem preDecrement_pc (w : Width) (ri : Reg) (s : State) : (preDecrement w ri s).pc = s.pc := rfl
@[simp] theorem preDecrement_ccr (w : Width) (ri : Reg) (s : State) : (preDecrement w ri s).ccr = s.ccr := rfl
@[simp] theorem preDecrement_xge (w : Width) (ri : Reg) (s : State) : (preDecrement w ri s).xge = s.xge := rfl
@[simp] theorem preDecrement_xgfrz (w : Width) (ri : Reg) (s : State) : (preDecrement w ri s).xgfrz = s.xgfrz := rfl
@[simp] theorem preDecrement_xgdbg (w : Width) (ri : Reg) (s : State) : (preDecrement w ri s).xgdbg = s.xgdbg := rfl
@[simp] theorem preDecrement_xgsweif (w : Width) (ri : Reg) (s : State) : (preDecrement w ri s).xgsweif = s.xgsweif := rfl
@[simp] theorem preDecrement_xgie (w : Width) (ri : Reg) (s : State) : (preDecrement w ri s).xgie = s.xgie := rfl
@[simp] theorem preDecrement_xgchid (w : Width) (ri : Reg) (s : State) : (preDecrement w ri s).xgchid = s.xgchid := rfl
@[simp] theorem preDecrement_xgvbr (w : Width) (ri : Reg) (s : State) : (preDecrement w ri s).xgvbr = s.xgvbr := rfl
@[simp] theorem preDecrement_xgif (w : Width) (ri : Reg) (s : State) : (preDecrement w ri s).xgif = s.xgif := rfl
@[simp] theorem preDecrement_xgswt (w : Width) (ri : Reg) (s : State) : (preDecrement w ri s).xgswt = s.xgswt := rfl
@[simp] theorem preDecrement_sem (w : Width) (ri : Reg) (s : State) : (preDecrement w ri s).sem = s.sem := rfl
@[simp] theorem preDecrement_dbgReq (w : Width) (ri : Reg) (s : State) : (preDecrement w ri s).dbgReq = s.dbgReq := rfl
@[simp] theorem preDecrement_startPending (w : Width) (ri : Reg) (s : State) : (preDecrement w ri s).startPending = s.startPending := rfl
@[simp] theorem preDecrement_ram (w : Width) (ri : Reg) (s : State) : (preDecrement w ri s).ram = s.ram := rfl
@[simp] theorem preDecrement_ramEpoch (w : Width) (ri : Reg) (s : State) : (preDecrement w ri s).ramEpoch = s.ramEpoch := rfl
@[simp] theorem preDecrement_reqLines (w : Width) (ri : Reg) (s : State) : (preDecrement w ri s).reqLines = s.reqLines := rfl
@[simp] theorem preDecrement_triggerRoute (w : Width) (ri : Reg) (s : State) : (preDecrement w ri s).triggerRoute = s.triggerRoute := rfl
@[simp] theorem preDecrement_freezeInput (w : Width) (ri : Reg) (s : State) : (preDecrement w ri s).freezeInput = s.freezeInput := rfl
@[simp] theorem preDecrement_tagged (w : Width) (ri : Reg) (s : State) : (preDecrement w ri s).tagged = s.tagged := rfl
@[simp] theorem preDecrement_env (w : Width) (ri : Reg) (s : State) : (preDecrement w ri s).env = s.env := rfl
@[simp] theorem preDecrement_periph (w : Width) (ri : Reg) (s : State) : (preDecrement w ri s).periph = s.periph := rfl
@[simp] theorem preDecrement_breakReqs (w : Width) (ri : Reg) (s : State) : (preDecrement w ri s).breakReqs = s.breakReqs := rfl
@[simp] theorem preDecrement_hostData (w : Width) (ri : Reg) (s : State) : (preDecrement w ri s).hostData = s.hostData := rfl
@[simp] theorem preDecrement_draws (w : Width) (ri : Reg) (s : State) : (preDecrement w ri s).draws = s.draws := rfl
@[simp] theorem preDecrement_chip (w : Width) (ri : Reg) (s : State) : (preDecrement w ri s).chip = s.chip := rfl

/-! ## softwareError -/

@[simp] theorem softwareError_regs (which : List Reg) (s : State) : (softwareError which s).regs = s.regs.scramble s.draws which := rfl
@[simp] theorem softwareError_pc (which : List Reg) (s : State) : (softwareError which s).pc = Config.freePc s.draws := rfl
@[simp] theorem softwareError_ccr (which : List Reg) (s : State) : (softwareError which s).ccr = s.ccr := rfl
@[simp] theorem softwareError_xge (which : List Reg) (s : State) : (softwareError which s).xge = s.xge := rfl
@[simp] theorem softwareError_xgfrz (which : List Reg) (s : State) : (softwareError which s).xgfrz = s.xgfrz := rfl
@[simp] theorem softwareError_xgdbg (which : List Reg) (s : State) : (softwareError which s).xgdbg = s.xgdbg := rfl
@[simp] theorem softwareError_xgsweif (which : List Reg) (s : State) : (softwareError which s).xgsweif = true := rfl
@[simp] theorem softwareError_xgie (which : List Reg) (s : State) : (softwareError which s).xgie = s.xgie := rfl
@[simp] theorem softwareError_xgchid (which : List Reg) (s : State) : (softwareError which s).xgchid = s.xgchid := rfl
@[simp] theorem softwareError_xgvbr (which : List Reg) (s : State) : (softwareError which s).xgvbr = s.xgvbr := rfl
@[simp] theorem softwareError_xgif (which : List Reg) (s : State) : (softwareError which s).xgif = s.xgif := rfl
@[simp] theorem softwareError_xgswt (which : List Reg) (s : State) : (softwareError which s).xgswt = s.xgswt := rfl
@[simp] theorem softwareError_sem (which : List Reg) (s : State) : (softwareError which s).sem = s.sem := rfl
@[simp] theorem softwareError_dbgReq (which : List Reg) (s : State) : (softwareError which s).dbgReq = s.dbgReq := rfl
@[simp] theorem softwareError_startPending (which : List Reg) (s : State) : (softwareError which s).startPending = s.startPending := rfl
@[simp] theorem softwareError_ram (which : List Reg) (s : State) : (softwareError which s).ram = s.ram := rfl
@[simp] theorem softwareError_ramEpoch (which : List Reg) (s : State) : (softwareError which s).ramEpoch = s.ramEpoch := rfl
@[simp] theorem softwareError_reqLines (which : List Reg) (s : State) : (softwareError which s).reqLines = s.reqLines := rfl
@[simp] theorem softwareError_triggerRoute (which : List Reg) (s : State) : (softwareError which s).triggerRoute = s.triggerRoute := rfl
@[simp] theorem softwareError_freezeInput (which : List Reg) (s : State) : (softwareError which s).freezeInput = s.freezeInput := rfl
@[simp] theorem softwareError_tagged (which : List Reg) (s : State) : (softwareError which s).tagged = s.tagged := rfl
@[simp] theorem softwareError_env (which : List Reg) (s : State) : (softwareError which s).env = s.env := rfl
@[simp] theorem softwareError_periph (which : List Reg) (s : State) : (softwareError which s).periph = s.periph := rfl
@[simp] theorem softwareError_breakReqs (which : List Reg) (s : State) : (softwareError which s).breakReqs = s.breakReqs := rfl
@[simp] theorem softwareError_hostData (which : List Reg) (s : State) : (softwareError which s).hostData = s.hostData := rfl
@[simp] theorem softwareError_draws (which : List Reg) (s : State) : (softwareError which s).draws = s.draws + 1 := rfl
@[simp] theorem softwareError_chip (which : List Reg) (s : State) : (softwareError which s).chip = s.chip := rfl

/-! ## illegalAccess -/

@[simp] theorem illegalAccess_regs (a : Word) (s : State) : (illegalAccess a s).regs = s.regs := rfl
@[simp] theorem illegalAccess_pc (a : Word) (s : State) : (illegalAccess a s).pc = s.pc := rfl
@[simp] theorem illegalAccess_ccr (a : Word) (s : State) : (illegalAccess a s).ccr = s.ccr := rfl
@[simp] theorem illegalAccess_xge (a : Word) (s : State) : (illegalAccess a s).xge = s.xge := rfl
@[simp] theorem illegalAccess_xgfrz (a : Word) (s : State) : (illegalAccess a s).xgfrz = s.xgfrz := rfl
@[simp] theorem illegalAccess_xgdbg (a : Word) (s : State) : (illegalAccess a s).xgdbg = s.xgdbg := rfl
@[simp] theorem illegalAccess_xgsweif (a : Word) (s : State) : (illegalAccess a s).xgsweif = s.xgsweif := rfl
@[simp] theorem illegalAccess_xgie (a : Word) (s : State) : (illegalAccess a s).xgie = s.xgie := rfl
@[simp] theorem illegalAccess_xgchid (a : Word) (s : State) : (illegalAccess a s).xgchid = s.xgchid := rfl
@[simp] theorem illegalAccess_xgvbr (a : Word) (s : State) : (illegalAccess a s).xgvbr = s.xgvbr := rfl
@[simp] theorem illegalAccess_xgif (a : Word) (s : State) : (illegalAccess a s).xgif = s.xgif := rfl
@[simp] theorem illegalAccess_xgswt (a : Word) (s : State) : (illegalAccess a s).xgswt = s.xgswt := rfl
@[simp] theorem illegalAccess_sem (a : Word) (s : State) : (illegalAccess a s).sem = s.sem := rfl
@[simp] theorem illegalAccess_dbgReq (a : Word) (s : State) : (illegalAccess a s).dbgReq = s.dbgReq := rfl
@[simp] theorem illegalAccess_startPending (a : Word) (s : State) : (illegalAccess a s).startPending = s.startPending := rfl
@[simp] theorem illegalAccess_ram (a : Word) (s : State) : (illegalAccess a s).ram = s.ram := rfl
@[simp] theorem illegalAccess_ramEpoch (a : Word) (s : State) : (illegalAccess a s).ramEpoch = s.ramEpoch := rfl
@[simp] theorem illegalAccess_reqLines (a : Word) (s : State) : (illegalAccess a s).reqLines = s.reqLines := rfl
@[simp] theorem illegalAccess_triggerRoute (a : Word) (s : State) : (illegalAccess a s).triggerRoute = s.triggerRoute := rfl
@[simp] theorem illegalAccess_freezeInput (a : Word) (s : State) : (illegalAccess a s).freezeInput = s.freezeInput := rfl
@[simp] theorem illegalAccess_tagged (a : Word) (s : State) : (illegalAccess a s).tagged = s.tagged := rfl
@[simp] theorem illegalAccess_env (a : Word) (s : State) : (illegalAccess a s).env = s.env := rfl
@[simp] theorem illegalAccess_periph (a : Word) (s : State) : (illegalAccess a s).periph = illegalRecord a s := rfl
@[simp] theorem illegalAccess_breakReqs (a : Word) (s : State) : (illegalAccess a s).breakReqs = s.breakReqs := rfl
@[simp] theorem illegalAccess_hostData (a : Word) (s : State) : (illegalAccess a s).hostData = s.hostData := rfl
@[simp] theorem illegalAccess_draws (a : Word) (s : State) : (illegalAccess a s).draws = s.draws := rfl
@[simp] theorem illegalAccess_chip (a : Word) (s : State) : (illegalAccess a s).chip = s.chip := rfl

/-! ## terminateThread -/

@[simp] theorem terminateThread_regs (s : State) : (terminateThread s).regs = s.regs := rfl
@[simp] theorem terminateThread_pc (s : State) : (terminateThread s).pc = s.pc := rfl
@[simp] theorem terminateThread_ccr (s : State) : (terminateThread s).ccr = s.ccr := rfl
@[simp] theorem terminateThread_xge (s : State) : (terminateThread s).xge = s.xge := rfl
@[simp] theorem terminateThread_xgfrz (s : State) : (terminateThread s).xgfrz = s.xgfrz := rfl
@[simp] theorem terminateThread_xgdbg (s : State) : (terminateThread s).xgdbg = s.xgdbg := rfl
@[simp] theorem terminateThread_xgsweif (s : State) : (terminateThread s).xgsweif = s.xgsweif := rfl
@[simp] theorem terminateThread_xgie (s : State) : (terminateThread s).xgie = s.xgie := rfl
@[simp] theorem terminateThread_xgchid (s : State) : (terminateThread s).xgchid = 0 := rfl
@[simp] theorem terminateThread_xgvbr (s : State) : (terminateThread s).xgvbr = s.xgvbr := rfl
@[simp] theorem terminateThread_xgif (s : State) : (terminateThread s).xgif = s.xgif := rfl
@[simp] theorem terminateThread_xgswt (s : State) : (terminateThread s).xgswt = s.xgswt := rfl
@[simp] theorem terminateThread_sem (s : State) : (terminateThread s).sem = s.sem := rfl
@[simp] theorem terminateThread_dbgReq (s : State) : (terminateThread s).dbgReq = s.dbgReq := rfl
@[simp] theorem terminateThread_startPending (s : State) : (terminateThread s).startPending = false := rfl
@[simp] theorem terminateThread_ram (s : State) : (terminateThread s).ram = s.ram := rfl
@[simp] theorem terminateThread_ramEpoch (s : State) : (terminateThread s).ramEpoch = s.ramEpoch := rfl
@[simp] theorem terminateThread_reqLines (s : State) : (terminateThread s).reqLines = s.reqLines := rfl
@[simp] theorem terminateThread_triggerRoute (s : State) : (terminateThread s).triggerRoute = s.triggerRoute := rfl
@[simp] theorem terminateThread_freezeInput (s : State) : (terminateThread s).freezeInput = s.freezeInput := rfl
@[simp] theorem terminateThread_tagged (s : State) : (terminateThread s).tagged = s.tagged := rfl
@[simp] theorem terminateThread_env (s : State) : (terminateThread s).env = s.env := rfl
@[simp] theorem terminateThread_periph (s : State) : (terminateThread s).periph = s.periph := rfl
@[simp] theorem terminateThread_breakReqs (s : State) : (terminateThread s).breakReqs = s.breakReqs := rfl
@[simp] theorem terminateThread_hostData (s : State) : (terminateThread s).hostData = s.hostData := rfl
@[simp] theorem terminateThread_draws (s : State) : (terminateThread s).draws = s.draws := rfl
@[simp] theorem terminateThread_chip (s : State) : (terminateThread s).chip = s.chip := rfl

/-! ## returnToScheduler -/

@[simp] theorem returnToScheduler_regs (s : State) : (returnToScheduler s).regs = s.regs := rfl
@[simp] theorem returnToScheduler_pc (s : State) : (returnToScheduler s).pc = Config.freePc s.draws := rfl
@[simp] theorem returnToScheduler_ccr (s : State) : (returnToScheduler s).ccr = s.ccr := rfl
@[simp] theorem returnToScheduler_xge (s : State) : (returnToScheduler s).xge = s.xge := rfl
@[simp] theorem returnToScheduler_xgfrz (s : State) : (returnToScheduler s).xgfrz = s.xgfrz := rfl
@[simp] theorem returnToScheduler_xgdbg (s : State) : (returnToScheduler s).xgdbg = s.xgdbg := rfl
@[simp] theorem returnToScheduler_xgsweif (s : State) : (returnToScheduler s).xgsweif = s.xgsweif := rfl
@[simp] theorem returnToScheduler_xgie (s : State) : (returnToScheduler s).xgie = s.xgie := rfl
@[simp] theorem returnToScheduler_xgchid (s : State) : (returnToScheduler s).xgchid = 0 := rfl
@[simp] theorem returnToScheduler_xgvbr (s : State) : (returnToScheduler s).xgvbr = s.xgvbr := rfl
@[simp] theorem returnToScheduler_xgif (s : State) : (returnToScheduler s).xgif = s.xgif := rfl
@[simp] theorem returnToScheduler_xgswt (s : State) : (returnToScheduler s).xgswt = s.xgswt := rfl
@[simp] theorem returnToScheduler_sem (s : State) : (returnToScheduler s).sem = s.sem := rfl
@[simp] theorem returnToScheduler_dbgReq (s : State) : (returnToScheduler s).dbgReq = s.dbgReq := rfl
@[simp] theorem returnToScheduler_startPending (s : State) : (returnToScheduler s).startPending = s.startPending := rfl
@[simp] theorem returnToScheduler_ram (s : State) : (returnToScheduler s).ram = s.ram := rfl
@[simp] theorem returnToScheduler_ramEpoch (s : State) : (returnToScheduler s).ramEpoch = s.ramEpoch := rfl
@[simp] theorem returnToScheduler_reqLines (s : State) : (returnToScheduler s).reqLines = s.reqLines := rfl
@[simp] theorem returnToScheduler_triggerRoute (s : State) : (returnToScheduler s).triggerRoute = s.triggerRoute := rfl
@[simp] theorem returnToScheduler_freezeInput (s : State) : (returnToScheduler s).freezeInput = s.freezeInput := rfl
@[simp] theorem returnToScheduler_tagged (s : State) : (returnToScheduler s).tagged = s.tagged := rfl
@[simp] theorem returnToScheduler_env (s : State) : (returnToScheduler s).env = s.env := rfl
@[simp] theorem returnToScheduler_periph (s : State) : (returnToScheduler s).periph = s.periph := rfl
@[simp] theorem returnToScheduler_breakReqs (s : State) : (returnToScheduler s).breakReqs = s.breakReqs := rfl
@[simp] theorem returnToScheduler_hostData (s : State) : (returnToScheduler s).hostData = s.hostData := rfl
@[simp] theorem returnToScheduler_draws (s : State) : (returnToScheduler s).draws = s.draws + 1 := rfl
@[simp] theorem returnToScheduler_chip (s : State) : (returnToScheduler s).chip = s.chip := rfl

/-! ## enterDebug -/

@[simp] theorem enterDebug_regs (s : State) : (enterDebug s).regs = s.regs := rfl
@[simp] theorem enterDebug_pc (s : State) : (enterDebug s).pc = s.pc := rfl
@[simp] theorem enterDebug_ccr (s : State) : (enterDebug s).ccr = s.ccr := rfl
@[simp] theorem enterDebug_xge (s : State) : (enterDebug s).xge = s.xge := rfl
@[simp] theorem enterDebug_xgfrz (s : State) : (enterDebug s).xgfrz = s.xgfrz := rfl
@[simp] theorem enterDebug_xgdbg (s : State) : (enterDebug s).xgdbg = true := rfl
@[simp] theorem enterDebug_xgsweif (s : State) : (enterDebug s).xgsweif = s.xgsweif := rfl
@[simp] theorem enterDebug_xgie (s : State) : (enterDebug s).xgie = s.xgie := rfl
@[simp] theorem enterDebug_xgchid (s : State) : (enterDebug s).xgchid = s.xgchid := rfl
@[simp] theorem enterDebug_xgvbr (s : State) : (enterDebug s).xgvbr = s.xgvbr := rfl
@[simp] theorem enterDebug_xgif (s : State) : (enterDebug s).xgif = s.xgif := rfl
@[simp] theorem enterDebug_xgswt (s : State) : (enterDebug s).xgswt = s.xgswt := rfl
@[simp] theorem enterDebug_sem (s : State) : (enterDebug s).sem = s.sem := rfl
@[simp] theorem enterDebug_dbgReq (s : State) : (enterDebug s).dbgReq = s.dbgReq := rfl
@[simp] theorem enterDebug_startPending (s : State) : (enterDebug s).startPending = s.startPending := rfl
@[simp] theorem enterDebug_ram (s : State) : (enterDebug s).ram = s.ram := rfl
@[simp] theorem enterDebug_ramEpoch (s : State) : (enterDebug s).ramEpoch = s.ramEpoch := rfl
@[simp] theorem enterDebug_reqLines (s : State) : (enterDebug s).reqLines = s.reqLines := rfl
@[simp] theorem enterDebug_triggerRoute (s : State) : (enterDebug s).triggerRoute = s.triggerRoute := rfl
@[simp] theorem enterDebug_freezeInput (s : State) : (enterDebug s).freezeInput = s.freezeInput := rfl
@[simp] theorem enterDebug_tagged (s : State) : (enterDebug s).tagged = false := rfl
@[simp] theorem enterDebug_env (s : State) : (enterDebug s).env = s.env := rfl
@[simp] theorem enterDebug_periph (s : State) : (enterDebug s).periph = s.periph := rfl
@[simp] theorem enterDebug_breakReqs (s : State) : (enterDebug s).breakReqs = s.breakReqs := rfl
@[simp] theorem enterDebug_hostData (s : State) : (enterDebug s).hostData = s.hostData := rfl
@[simp] theorem enterDebug_draws (s : State) : (enterDebug s).draws = s.draws := rfl
@[simp] theorem enterDebug_chip (s : State) : (enterDebug s).chip = s.chip := rfl

/-! ## setSemaphore -/

@[simp] theorem setSemaphore_regs (k : BitVec 3) (s : State) : (setSemaphore k s).regs = s.regs := rfl
@[simp] theorem setSemaphore_pc (k : BitVec 3) (s : State) : (setSemaphore k s).pc = s.pc := rfl
@[simp] theorem setSemaphore_ccr (k : BitVec 3) (s : State) : (setSemaphore k s).ccr = { s.ccr with c := decide ((s.sem.get k).coreLock = .lockedXG) } := rfl
@[simp] theorem setSemaphore_xge (k : BitVec 3) (s : State) : (setSemaphore k s).xge = s.xge := rfl
@[simp] theorem setSemaphore_xgfrz (k : BitVec 3) (s : State) : (setSemaphore k s).xgfrz = s.xgfrz := rfl
@[simp] theorem setSemaphore_xgdbg (k : BitVec 3) (s : State) : (setSemaphore k s).xgdbg = s.xgdbg := rfl
@[simp] theorem setSemaphore_xgsweif (k : BitVec 3) (s : State) : (setSemaphore k s).xgsweif = s.xgsweif := rfl
@[simp] theorem setSemaphore_xgie (k : BitVec 3) (s : State) : (setSemaphore k s).xgie = s.xgie := rfl
@[simp] theorem setSemaphore_xgchid (k : BitVec 3) (s : State) : (setSemaphore k s).xgchid = s.xgchid := rfl
@[simp] theorem setSemaphore_xgvbr (k : BitVec 3) (s : State) : (setSemaphore k s).xgvbr = s.xgvbr := rfl
@[simp] theorem setSemaphore_xgif (k : BitVec 3) (s : State) : (setSemaphore k s).xgif = s.xgif := rfl
@[simp] theorem setSemaphore_xgswt (k : BitVec 3) (s : State) : (setSemaphore k s).xgswt = s.xgswt := rfl
@[simp] theorem setSemaphore_sem (k : BitVec 3) (s : State) : (setSemaphore k s).sem = s.sem.set k (s.sem.get k).coreLock := rfl
@[simp] theorem setSemaphore_dbgReq (k : BitVec 3) (s : State) : (setSemaphore k s).dbgReq = s.dbgReq := rfl
@[simp] theorem setSemaphore_startPending (k : BitVec 3) (s : State) : (setSemaphore k s).startPending = s.startPending := rfl
@[simp] theorem setSemaphore_ram (k : BitVec 3) (s : State) : (setSemaphore k s).ram = s.ram := rfl
@[simp] theorem setSemaphore_ramEpoch (k : BitVec 3) (s : State) : (setSemaphore k s).ramEpoch = s.ramEpoch := rfl
@[simp] theorem setSemaphore_reqLines (k : BitVec 3) (s : State) : (setSemaphore k s).reqLines = s.reqLines := rfl
@[simp] theorem setSemaphore_triggerRoute (k : BitVec 3) (s : State) : (setSemaphore k s).triggerRoute = s.triggerRoute := rfl
@[simp] theorem setSemaphore_freezeInput (k : BitVec 3) (s : State) : (setSemaphore k s).freezeInput = s.freezeInput := rfl
@[simp] theorem setSemaphore_tagged (k : BitVec 3) (s : State) : (setSemaphore k s).tagged = s.tagged := rfl
@[simp] theorem setSemaphore_env (k : BitVec 3) (s : State) : (setSemaphore k s).env = s.env := rfl
@[simp] theorem setSemaphore_periph (k : BitVec 3) (s : State) : (setSemaphore k s).periph = s.periph := rfl
@[simp] theorem setSemaphore_breakReqs (k : BitVec 3) (s : State) : (setSemaphore k s).breakReqs = s.breakReqs := rfl
@[simp] theorem setSemaphore_hostData (k : BitVec 3) (s : State) : (setSemaphore k s).hostData = s.hostData := rfl
@[simp] theorem setSemaphore_draws (k : BitVec 3) (s : State) : (setSemaphore k s).draws = s.draws := rfl
@[simp] theorem setSemaphore_chip (k : BitVec 3) (s : State) : (setSemaphore k s).chip = s.chip := rfl

/-! ## clearSemaphore -/

@[simp] theorem clearSemaphore_regs (k : BitVec 3) (s : State) : (clearSemaphore k s).regs = s.regs := rfl
@[simp] theorem clearSemaphore_pc (k : BitVec 3) (s : State) : (clearSemaphore k s).pc = s.pc := rfl
@[simp] theorem clearSemaphore_ccr (k : BitVec 3) (s : State) : (clearSemaphore k s).ccr = s.ccr := rfl
@[simp] theorem clearSemaphore_xge (k : BitVec 3) (s : State) : (clearSemaphore k s).xge = s.xge := rfl
@[simp] theorem clearSemaphore_xgfrz (k : BitVec 3) (s : State) : (clearSemaphore k s).xgfrz = s.xgfrz := rfl
@[simp] theorem clearSemaphore_xgdbg (k : BitVec 3) (s : State) : (clearSemaphore k s).xgdbg = s.xgdbg := rfl
@[simp] theorem clearSemaphore_xgsweif (k : BitVec 3) (s : State) : (clearSemaphore k s).xgsweif = s.xgsweif := rfl
@[simp] theorem clearSemaphore_xgie (k : BitVec 3) (s : State) : (clearSemaphore k s).xgie = s.xgie := rfl
@[simp] theorem clearSemaphore_xgchid (k : BitVec 3) (s : State) : (clearSemaphore k s).xgchid = s.xgchid := rfl
@[simp] theorem clearSemaphore_xgvbr (k : BitVec 3) (s : State) : (clearSemaphore k s).xgvbr = s.xgvbr := rfl
@[simp] theorem clearSemaphore_xgif (k : BitVec 3) (s : State) : (clearSemaphore k s).xgif = s.xgif := rfl
@[simp] theorem clearSemaphore_xgswt (k : BitVec 3) (s : State) : (clearSemaphore k s).xgswt = s.xgswt := rfl
@[simp] theorem clearSemaphore_sem (k : BitVec 3) (s : State) : (clearSemaphore k s).sem = s.sem.set k (s.sem.get k).coreUnlock := rfl
@[simp] theorem clearSemaphore_dbgReq (k : BitVec 3) (s : State) : (clearSemaphore k s).dbgReq = s.dbgReq := rfl
@[simp] theorem clearSemaphore_startPending (k : BitVec 3) (s : State) : (clearSemaphore k s).startPending = s.startPending := rfl
@[simp] theorem clearSemaphore_ram (k : BitVec 3) (s : State) : (clearSemaphore k s).ram = s.ram := rfl
@[simp] theorem clearSemaphore_ramEpoch (k : BitVec 3) (s : State) : (clearSemaphore k s).ramEpoch = s.ramEpoch := rfl
@[simp] theorem clearSemaphore_reqLines (k : BitVec 3) (s : State) : (clearSemaphore k s).reqLines = s.reqLines := rfl
@[simp] theorem clearSemaphore_triggerRoute (k : BitVec 3) (s : State) : (clearSemaphore k s).triggerRoute = s.triggerRoute := rfl
@[simp] theorem clearSemaphore_freezeInput (k : BitVec 3) (s : State) : (clearSemaphore k s).freezeInput = s.freezeInput := rfl
@[simp] theorem clearSemaphore_tagged (k : BitVec 3) (s : State) : (clearSemaphore k s).tagged = s.tagged := rfl
@[simp] theorem clearSemaphore_env (k : BitVec 3) (s : State) : (clearSemaphore k s).env = s.env := rfl
@[simp] theorem clearSemaphore_periph (k : BitVec 3) (s : State) : (clearSemaphore k s).periph = s.periph := rfl
@[simp] theorem clearSemaphore_breakReqs (k : BitVec 3) (s : State) : (clearSemaphore k s).breakReqs = s.breakReqs := rfl
@[simp] theorem clearSemaphore_hostData (k : BitVec 3) (s : State) : (clearSemaphore k s).hostData = s.hostData := rfl
@[simp] theorem clearSemaphore_draws (k : BitVec 3) (s : State) : (clearSemaphore k s).draws = s.draws := rfl
@[simp] theorem clearSemaphore_chip (k : BitVec 3) (s : State) : (clearSemaphore k s).chip = s.chip := rfl

end Sys2Proof.Machine
end

