-- ==== Sys2Proof/Laws/Ops.lean ====
section
/-! SUPPORT. What the shared operations can do, once each: registers, RAM as data, the accesses, loads and stores, errors,
thread start. Later proofs cite these and do not unfold the operations. -/

namespace Sys2Proof.Machine

set_option Elab.async false

/-! ## Outcomes -/

theorem thenDo_next {o : Host.Outcome State Fault Refusal} {f : State → Host.Outcome State Fault Refusal} {t : State} :
    thenDo o f = .next t ↔ ∃ s, o = .next s ∧ f s = .next t := by
  cases o <;> simp [thenDo]

theorem onNext_next {o : Host.Outcome State Fault Refusal} {f : State → State} {t : State} :
    onNext o f = .next t ↔ ∃ s, o = .next s ∧ f s = t := by
  cases o <;> simp [onNext]

/-! ## Registers -/

@[simp] theorem Regs.get_r0 (rs : Regs) : rs.get .r0 = 0 := rfl

@[simp] theorem reg_r0 (s : State) : s.reg .r0 = 0 := rfl

/-- Reading any register after writing any register: R0 stays 0 (R21). -/
theorem Regs.get_set (rs : Regs) (r q : Reg) (v : Word) :
    (rs.set r v).get q = if q = r ∧ r ≠ .r0 then v else rs.get q := by
  cases r <;> cases q <;> simp [Regs.get, Regs.set]

theorem reg_setReg (s : State) (r q : Reg) (v : Word) :
    (s.setReg r v).reg q = if q = r ∧ r ≠ .r0 then v else s.reg q := Regs.get_set s.regs r q v

@[simp] theorem reg_setReg_same (s : State) (r : Reg) (v : Word) (h : r ≠ .r0) : (s.setReg r v).reg r = v := by
  simp [reg_setReg, h]

@[simp] theorem reg_setReg_other (s : State) (r q : Reg) (v : Word) (h : q ≠ r) : (s.setReg r v).reg q = s.reg q := by
  simp [reg_setReg, h]

@[simp] theorem Regs.set_r0 (rs : Regs) (v : Word) : rs.set .r0 v = rs := rfl

@[simp] theorem reg_setCcr (s : State) (f : CCR) (q : Reg) : (s.setCcr f).reg q = s.reg q := rfl

@[simp] theorem reg_setPc (s : State) (t : Word) (q : Reg) : (s.setPc t).reg q = s.reg q := rfl

@[simp] theorem reg_advance (s : State) (q : Reg) : s.advance.reg q = s.reg q := rfl

theorem reg_writeResult (s : State) (rd q : Reg) (r : Word) (f : CCR) :
    (s.writeResult rd r f).reg q = if q = rd ∧ rd ≠ .r0 then r else s.reg q := Regs.get_set s.regs rd q r

/-! ## RAM as data -/

@[simp] theorem Memory.lookup_nil (a : Nat) : Memory.lookup [] a = none := rfl

@[simp] theorem Memory.lookup_cons (k : Nat) (b : Byte) (m : Memory) (a : Nat) :
    Memory.lookup ((k, b) :: m) a = if k = a then some b else Memory.lookup m a := rfl

/-- A read after a write to the same place gives the value written (R95). -/
@[simp] theorem Memory.lookup_write_same (m : Memory) (a : Nat) (v : Byte) :
    Memory.lookup (Memory.write m a v) a = some v := by
  induction m with
  | nil => simp [Memory.write]
  | cons p m ih =>
    obtain ⟨k, b⟩ := p
    simp only [Memory.write]
    split
    · simp
    · split
      · simp
      · rename_i h
        simp [Ne.symm h, ih]

/-- A write leaves every other place alone. -/
theorem Memory.lookup_write_other (m : Memory) {a b : Nat} (v : Byte) (h : a ≠ b) :
    Memory.lookup (Memory.write m a v) b = Memory.lookup m b := by
  induction m with
  | nil => simp [Memory.write, h]
  | cons p m ih =>
    obtain ⟨k, c⟩ := p
    simp only [Memory.write]
    split
    · simp [h]
    · split
      · rename_i e
        simp [h, ← e]
      · simp [ih]

theorem Memory.write_bound {m : Memory} {a : Nat} {v : Byte} {p : Host.Cell} (h : p ∈ Memory.write m a v) :
    p = (a, v) ∨ p ∈ m := by
  induction m with
  | nil => simpa [Memory.write] using h
  | cons q m ih =>
    obtain ⟨k, b⟩ := q
    simp only [Memory.write] at h
    split at h
    · simpa using h
    · split at h
      · simp only [List.mem_cons] at h ⊢
        exact h.imp_right .inr
      · simp only [List.mem_cons] at h ⊢
        rcases h with h | h
        · exact .inr (.inl h)
        · exact (ih h).imp_right .inr

/-- A write keeps the canonical form. -/
theorem Memory.wf_write {m : Memory} {a : Nat} (v : Byte) (hm : Memory.wf m) (ha : a < 2 ^ 20) :
    Memory.wf (Memory.write m a v) := by
  refine ⟨?_, fun p hp => (Memory.write_bound hp).elim (fun e => e ▸ ha) (hm.2 p)⟩
  obtain ⟨hs, -⟩ := hm
  induction m with
  | nil => simp [Memory.write]
  | cons q m ih =>
    obtain ⟨k, b⟩ := q
    rw [List.pairwise_cons] at hs
    simp only [Memory.write]
    split
    · rename_i h
      refine List.pairwise_cons.2 ⟨fun p hp => ?_, List.pairwise_cons.2 hs⟩
      rcases List.mem_cons.1 hp with rfl | hp
      · exact h
      · exact Nat.lt_trans h (hs.1 p hp)
    · split
      · rename_i e
        exact List.pairwise_cons.2 ⟨fun p hp => e ▸ hs.1 p hp, hs.2⟩
      · rename_i h h'
        refine List.pairwise_cons.2 ⟨fun p hp => ?_, ih hs.2⟩
        rcases Memory.write_bound hp with rfl | hp
        · exact Nat.lt_of_le_of_ne (Nat.le_of_not_lt h) (Ne.symm h')
        · exact hs.1 p hp

theorem setGlobalByte_wf {s : State} (g : BitVec 20) (v : Byte) (h : Memory.wf s.ram) :
    Memory.wf (s.setGlobalByte g v).ram := Memory.wf_write v h g.isLt

theorem setRamByte_wf {s : State} (a : Word) (v : Byte) (h : Memory.wf s.ram) : Memory.wf (s.setRamByte a v).ram :=
  setGlobalByte_wf _ v h

theorem setRamWord_wf {s : State} (a v : Word) (h : Memory.wf s.ram) : Memory.wf (s.setRamWord a v).ram :=
  setRamByte_wf _ _ (setRamByte_wf _ _ h)

theorem reset_wf : Memory.wf State.reset.ram := ⟨List.Pairwise.nil, fun _ h => absurd h List.not_mem_nil⟩

/-! ## RAM bytes -/

@[simp] theorem globalByte_setGlobalByte_same (s : State) (g : BitVec 20) (v : Byte) :
    (s.setGlobalByte g v).globalByte g = v := by
  simp [State.globalByte]

theorem globalByte_setGlobalByte_other (s : State) {g h : BitVec 20} (v : Byte) (hne : g ≠ h) :
    (s.setGlobalByte g v).globalByte h = s.globalByte h := by
  have : g.toNat ≠ h.toNat := fun e => hne (BitVec.eq_of_toNat_eq e)
  simp [State.globalByte, Memory.lookup_write_other _ _ this]

/-- The low 16 bits of a global address are the XGATE address (R103). -/
theorem globalAddress_getLsbD (c : Chip) (vbr : BitVec 32) (a : Word) {i : Nat} (hi : i < 16) :
    (globalAddress c vbr a).getLsbD i = a.getLsbD i := by
  unfold globalAddress
  simp only [BitVec.getLsbD_append, hi, if_true]

/-- The window maps different XGATE addresses to different global ones. -/
theorem globalAddress_injective (c : Chip) (vbr : BitVec 32) {a b : Word}
    (h : globalAddress c vbr a = globalAddress c vbr b) : a = b := by
  apply BitVec.eq_of_getLsbD_eq
  intro i hi
  rw [← globalAddress_getLsbD c vbr a hi, h, globalAddress_getLsbD c vbr b hi]

theorem add_one_ne (a : Word) : a + 1 ≠ a := by
  intro h
  simp at h

@[simp] theorem ramByte_setRamByte_same (s : State) (a : Word) (v : Byte) : (s.setRamByte a v).ramByte a = v :=
  globalByte_setGlobalByte_same s _ v

theorem ramByte_setRamByte_other (s : State) {a b : Word} (v : Byte) (h : a ≠ b) :
    (s.setRamByte a v).ramByte b = s.ramByte b :=
  globalByte_setGlobalByte_other s v fun e => h (globalAddress_injective _ _ e)

@[simp] theorem joinBytes_highByte_lowByte (v : Word) : joinBytes (highByte v) (lowByte v) = v := by
  apply BitVec.eq_of_getLsbD_eq
  intro i hi
  simp only [joinBytes, highByte, lowByte, BitVec.getLsbD_append, BitVec.getLsbD_extractLsb']
  by_cases h : i < 8
  · simp [h]
  · have : i - 8 < 8 := by omega
    simp [h, this, show 8 + (i - 8) = i by omega]

/-- A word read after a word write to the same address gives the word (R90, R92). -/
@[simp] theorem ramWord_setRamWord (s : State) (a v : Word) : (s.setRamWord a v).ramWord a = v := by
  simp only [State.ramWord, State.setRamWord]
  rw [ramByte_setRamByte_other _ _ (add_one_ne a)]
  simp

/-- The bytes a word write leaves alone. -/
theorem ramByte_setRamWord_other (s : State) {a b v : Word} (h : a ≠ b) (h' : a + 1 ≠ b) :
    (s.setRamWord a v).ramByte b = s.ramByte b := by
  simp only [State.setRamWord]
  rw [ramByte_setRamByte_other _ _ h', ramByte_setRamByte_other _ _ h]

/-! ## Errors -/

/-- All that an illegal access can do: nothing outside the Register Space, and there what is on the bus comes before the
earlier record. -/
theorem illegalAccess_cases (a : Word) (s : State) :
    (space s.chip a ≠ .register ∧ illegalAccess a s = s) ∨
    (space s.chip a = .register ∧ a.getLsbD 0 = true ∧
      illegalAccess a s = { s with periph := Config.misalignedOnBus s.draws a ++ s.periph }) ∨
    (space s.chip a = .register ∧ a.getLsbD 0 = false ∧ (ownOffset s.chip a).isSome = true ∧ illegalAccess a s = s) ∨
    (space s.chip a = .register ∧ a.getLsbD 0 = false ∧ (ownOffset s.chip a).isSome = false ∧
      illegalAccess a s = { s with periph := .read .core .word a :: s.periph }) := by
  unfold illegalAccess illegalRecord
  by_cases hs : space s.chip a = .register <;> cases h : a.getLsbD 0 <;>
    cases ho : (ownOffset s.chip a).isSome <;> simp [hs]

theorem reg_illegalAccess (a : Word) (s : State) (q : Reg) : (illegalAccess a s).reg q = s.reg q := rfl

/-- An access that did not complete: a software error after the access, or a refusal. -/
theorem stopAt_cases (which : List Reg) (a : Word) (s : State) (e : Stop) :
    (∃ c, e = .error c ∧ stopAt which a s e = .next (softwareError which (illegalAccess a s))) ∨
    (∃ r, e = .refused r ∧ stopAt which a s e = .refused r) := by
  cases e with
  | error c => exact .inl ⟨c, rfl, rfl⟩
  | refused r => exact .inr ⟨r, rfl, rfl⟩

theorem Regs.get_scramble (rs : Regs) (draw : Nat) (which : List Reg) (q : Reg) :
    (rs.scramble draw which).get q = if q ∈ which ∧ q ≠ .r0 then Config.freeReg draw q else rs.get q := by
  unfold Regs.scramble
  induction which generalizing rs with
  | nil => simp
  | cons r l ih =>
    rw [List.foldl_cons, ih, Regs.get_set]
    by_cases h : q ∈ l <;> by_cases h0 : q = .r0 <;> by_cases hr : q = r <;> simp_all

/-- After a software error the registers not listed hold what they held (R355). -/
theorem reg_softwareError (s : State) (which : List Reg) (q : Reg) :
    (softwareError which s).reg q = if q ∈ which ∧ q ≠ .r0 then Config.freeReg s.draws q else s.reg q :=
  Regs.get_scramble s.regs s.draws which q

/-! ## Accesses -/

/-- All that a load from the Register Space can do. -/
theorem registerRead_cases (w : Width) (a : Word) (s : State) :
    (ownOffset s.chip a = none ∧ registerRead w a s = .ok (periphRead .core w a s)) ∨
    (∃ v, (ownOffset s.chip a = some 0x18 ∨ ownOffset s.chip a = some 0x19) ∧ registerRead w a s = .ok (v, s)) ∨
    (∃ off, ownOffset s.chip a = some off ∧ off ≠ 0x18 ∧ off ≠ 0x19 ∧
      registerRead w a s = .error (.refused .ownModuleRegister)) := by
  unfold registerRead
  split
  · rename_i h
    exact .inl ⟨h, rfl⟩
  · rename_i off h
    split
    · rename_i e
      exact .inr (.inl ⟨_, .inl (e ▸ h), rfl⟩)
    · split
      · rename_i e
        exact .inr (.inl ⟨_, .inr (e ▸ h), rfl⟩)
      · rename_i e e'
        exact .inr (.inr ⟨off, h, e, e', rfl⟩)

/-- All that MemRead can do (R89, R90): an error, a refusal, RAM, or the Register Space. -/
theorem memRead_cases (w : Width) (a : Word) (s : State) :
    (misaligned w a = true ∧ memRead w a s = .error (.error .misalignedData)) ∨
    (misaligned w a = false ∧ space s.chip a = .unmapped ∧ memRead w a s = .error (.error .unmappedData)) ∨
    (misaligned w a = false ∧ space s.chip a = .ram ∧ accessProtected s.chip w a = true ∧
      memRead w a s = .error (.refused .protectedRam)) ∨
    (misaligned w a = false ∧ space s.chip a = .ram ∧ accessProtected s.chip w a = false ∧
      memRead w a s = .ok (s.ramRead w a, s)) ∨
    (misaligned w a = false ∧ space s.chip a = .register ∧ memRead w a s = registerRead w a s) := by
  unfold memRead
  cases hm : misaligned w a <;> cases hs : space s.chip a <;> cases hp : accessProtected s.chip w a <;> simp

/-- All that a store to the Register Space can do. -/
theorem registerWrite_cases (w : Width) (a v : Word) (s : State) :
    (ownOffset s.chip a = none ∧ registerWrite w a v s = .ok (periphWrite .core w a v s)) ∨
    ((ownOffset s.chip a = some 0x18 ∨ ownOffset s.chip a = some 0x19) ∧
      registerWrite w a v s = .ok (storeTriggers w v s)) ∨
    (∃ off, ownOffset s.chip a = some off ∧ off ≠ 0x18 ∧ off ≠ 0x19 ∧
      registerWrite w a v s = .error (.refused .ownModuleRegister)) := by
  unfold registerWrite
  split
  · rename_i h
    exact .inl ⟨h, rfl⟩
  · rename_i off h
    split
    · rename_i e
      exact .inr (.inl ⟨e.imp (by rintro rfl; exact h) (by rintro rfl; exact h), rfl⟩)
    · rename_i e
      rw [not_or] at e
      exact .inr (.inr ⟨off, h, e.1, e.2, rfl⟩)

/-- All that MemWrite can do (R91, R92). -/
theorem memWrite_cases (w : Width) (a v : Word) (s : State) :
    (misaligned w a = true ∧ memWrite w a v s = .error (.error .misalignedData)) ∨
    (misaligned w a = false ∧ space s.chip a = .unmapped ∧ memWrite w a v s = .error (.error .unmappedData)) ∨
    (misaligned w a = false ∧ space s.chip a = .ram ∧ accessProtected s.chip w a = true ∧
      memWrite w a v s = .error (.refused .protectedRam)) ∨
    (misaligned w a = false ∧ space s.chip a = .ram ∧ accessProtected s.chip w a = false ∧
      writesPrefetched w a s = true ∧ memWrite w a v s = .error (.refused .prefetchedWordWritten)) ∨
    (misaligned w a = false ∧ space s.chip a = .ram ∧ accessProtected s.chip w a = false ∧
      writesPrefetched w a s = false ∧ memWrite w a v s = .ok (s.ramWrite w a v)) ∨
    (misaligned w a = false ∧ space s.chip a = .register ∧ memWrite w a v s = registerWrite w a v s) := by
  unfold memWrite
  cases hm : misaligned w a <;> cases hs : space s.chip a <;> cases hp : accessProtected s.chip w a <;>
    cases hw : writesPrefetched w a s <;> simp

/-- All that Fetch can do (R97). -/
theorem fetchWord_cases (a : Word) (s : State) :
    (∃ e, fetchWord a s = .error (.error e)) ∨ fetchWord a s = .error (.refused .protectedRam) ∨
    (a.getLsbD 0 = false ∧ space s.chip a = .ram ∧ accessProtected s.chip .word a = false ∧
      fetchWord a s = .ok (s.ramWord a)) := by
  unfold fetchWord
  cases h : a.getLsbD 0 <;> cases hs : space s.chip a <;> cases hp : accessProtected s.chip .word a <;> simp

/-- All that VecRead can do (R98). -/
theorem vecRead_cases (a : Word) (s : State) :
    (∃ e, vecRead a s = .error (.error e)) ∨ vecRead a s = .error (.refused .protectedRam) ∨
    (space s.chip a = .ram ∧ accessProtected s.chip .word a = false ∧ vecRead a s = .ok (s.ramWord a)) := by
  unfold vecRead
  cases hs : space s.chip a <;> cases hp : accessProtected s.chip .word a <;> simp

/-! ## Loads, stores and thread start -/

/-- If a load answers a next state, its access completed, or it is the software error. -/
theorem loadInto_next {w : Width} {rd : Reg} {a : Word} {which : List Reg} {post : State → State} {s t : State}
    (h : loadInto w rd a which post s = .next t) :
    (∃ v u, memRead w a s = .ok (v, u) ∧ t = ((post u).setReg rd v).advance) ∨
    (∃ e, memRead w a s = .error (.error e) ∧ t = softwareError which (illegalAccess a s)) := by
  unfold loadInto at h
  split at h
  · rename_i v u e
    exact .inl ⟨v, u, e, by simpa using h.symm⟩
  · rename_i e he
    rcases stopAt_cases which a s e with ⟨c, rfl, hc⟩ | ⟨r, rfl, hr⟩
    · exact .inr ⟨c, he, by simpa [hc] using h.symm⟩
    · simp [hr] at h

/-- If a store answers a next state, its access completed, or it is the software error. -/
theorem storeAt_next {w : Width} {v a : Word} {which : List Reg} {post : State → State} {s t : State}
    (h : storeAt w v a which post s = .next t) :
    (∃ u, memWrite w a v s = .ok u ∧ t = (post u).advance) ∨
    (∃ e, memWrite w a v s = .error (.error e) ∧ t = softwareError which (illegalAccess a s)) := by
  unfold storeAt at h
  split at h
  · rename_i u e
    exact .inl ⟨u, e, by simpa using h.symm⟩
  · rename_i e he
    rcases stopAt_cases which a s e with ⟨c, rfl, hc⟩ | ⟨r, rfl, hr⟩
    · exact .inr ⟨c, he, by simpa [hc] using h.symm⟩
    · simp [hr] at h

/-- If a thread start answers a next state, both vector words were read, or it is the software error with XGCHID already
written (R346, R347). -/
theorem startThread_next {n : BitVec 7} {s t : State} (h : startThread n s = .next t) :
    (∃ p v, vecRead (vectorAddress s n) { s with xgchid := n } = .ok p ∧
      vecRead (vectorAddress s n + 2) { s with xgchid := n } = .ok v ∧
      t = { s with
        xgchid := n, pc := p, regs := threadRegs s.draws v, ccr := CCR.ofBits (Config.freeCcr s.draws)
        draws := s.draws + 1 }) ∨
    ∃ a, (a = vectorAddress s n ∨ a = vectorAddress s n + 2) ∧
      t = softwareError [.r1] (illegalAccess a { s with xgchid := n }) := by
  have hva : vectorAddress { s with xgchid := n } n = vectorAddress s n := rfl
  simp only [startThread, hva] at h
  split at h
  · rename_i e he
    rcases stopAt_cases [.r1] (vectorAddress s n) { s with xgchid := n } e with ⟨c, rfl, hc⟩ | ⟨r, rfl, hr⟩
    · exact .inr ⟨_, .inl rfl, (Host.Outcome.next.inj (hc.symm.trans h)).symm⟩
    · exact nomatch hr.symm.trans h
  · rename_i p hp
    split at h
    · rename_i e he
      rcases stopAt_cases [.r1] (vectorAddress s n + 2) { s with xgchid := n } e with ⟨c, rfl, hc⟩ | ⟨r, rfl, hr⟩
      · exact .inr ⟨_, .inr rfl, (Host.Outcome.next.inj (hc.symm.trans h)).symm⟩
      · exact nomatch hr.symm.trans h
    · rename_i v hv
      exact .inl ⟨p, v, hp, hv, by simpa using h.symm⟩

/-! ## Semaphores -/

/-- Reading any semaphore after writing any. -/
theorem Sems.get_set (t : Sems) (k j : BitVec 3) (v : SemState) :
    (t.set k v).get j = if j = k then v else t.get j := by
  have key : ∀ j k : BitVec 3, (Sems.set t k v).get j = if j = k then v else t.get j := by
    intro j k
    have hk : k = 0 ∨ k = 1 ∨ k = 2 ∨ k = 3 ∨ k = 4 ∨ k = 5 ∨ k = 6 ∨ k = 7 := by revert k; decide
    have hj : j = 0 ∨ j = 1 ∨ j = 2 ∨ j = 3 ∨ j = 4 ∨ j = 5 ∨ j = 6 ∨ j = 7 := by revert j; decide
    rcases hk with rfl | rfl | rfl | rfl | rfl | rfl | rfl | rfl <;>
      rcases hj with rfl | rfl | rfl | rfl | rfl | rfl | rfl | rfl <;> rfl
  exact key j k

end Sys2Proof.Machine
end

