-- ==== Sys2Proof/Laws/PerInstr.lean ====
section
/-! SUPPORT. The family EncodingFitsTable: the encoding of every instruction lies in the row that spec/opcode_table.json
gives it, whatever its operands. -/

namespace Sys2Proof.Laws.EncodingFitsTable

set_option Elab.async false

/-- The mask of fixed bits and the value with all fields 0 of each row (R136). -/
def row : Instr → Word × Word
  | .brk => (0xFFFF, 0x0000)
  | .nop => (0xFFFF, 0x0100)
  | .rts => (0xFFFF, 0x0200)
  | .sif => (0xFFFF, 0x0300)
  | .csemImm _ => (0xF8FF, 0x00F0)
  | .csemReg _ => (0xF8FF, 0x00F1)
  | .ssemImm _ => (0xF8FF, 0x00F2)
  | .ssemReg _ => (0xF8FF, 0x00F3)
  | .sex _ => (0xF8FF, 0x00F4)
  | .par _ => (0xF8FF, 0x00F5)
  | .jal _ => (0xF8FF, 0x00F6)
  | .sifReg _ => (0xF8FF, 0x00F7)
  | .tfrFromCcr _ => (0xF8FF, 0x00F8)
  | .tfrToCcr _ => (0xF8FF, 0x00F9)
  | .bffo _ _ => (0xF81F, 0x0810)
  | .asrReg _ _ => (0xF81F, 0x0811)
  | .cslReg _ _ => (0xF81F, 0x0812)
  | .csrReg _ _ => (0xF81F, 0x0813)
  | .lslReg _ _ => (0xF81F, 0x0814)
  | .lsrReg _ _ => (0xF81F, 0x0815)
  | .rolReg _ _ => (0xF81F, 0x0816)
  | .rorReg _ _ => (0xF81F, 0x0817)
  | .asrImm _ _ => (0xF80F, 0x0809)
  | .cslImm _ _ => (0xF80F, 0x080A)
  | .csrImm _ _ => (0xF80F, 0x080B)
  | .lslImm _ _ => (0xF80F, 0x080C)
  | .lsrImm _ _ => (0xF80F, 0x080D)
  | .rolImm _ _ => (0xF80F, 0x080E)
  | .rorImm _ _ => (0xF80F, 0x080F)
  | .and _ _ _ => (0xF803, 0x1000)
  | .or _ _ _ => (0xF803, 0x1002)
  | .xnor _ _ _ => (0xF803, 0x1003)
  | .sub _ _ _ => (0xF803, 0x1800)
  | .sbc _ _ _ => (0xF803, 0x1801)
  | .add _ _ _ => (0xF803, 0x1802)
  | .adc _ _ _ => (0xF803, 0x1803)
  | .bcc _ => (0xFE00, 0x2000)
  | .bcs _ => (0xFE00, 0x2200)
  | .bne _ => (0xFE00, 0x2400)
  | .beq _ => (0xFE00, 0x2600)
  | .bpl _ => (0xFE00, 0x2800)
  | .bmi _ => (0xFE00, 0x2A00)
  | .bvc _ => (0xFE00, 0x2C00)
  | .bvs _ => (0xFE00, 0x2E00)
  | .bhi _ => (0xFE00, 0x3000)
  | .bls _ => (0xFE00, 0x3200)
  | .bge _ => (0xFE00, 0x3400)
  | .blt _ => (0xFE00, 0x3600)
  | .bgt _ => (0xFE00, 0x3800)
  | .ble _ => (0xFE00, 0x3A00)
  | .bra _ => (0xFC00, 0x3C00)
  | .ldbOff _ _ _ => (0xF800, 0x4000)
  | .ldwOff _ _ _ => (0xF800, 0x4800)
  | .stbOff _ _ _ => (0xF800, 0x5000)
  | .stwOff _ _ _ => (0xF800, 0x5800)
  | .ldbIdx _ _ _ => (0xF803, 0x6000)
  | .ldwIdx _ _ _ => (0xF803, 0x6800)
  | .stbIdx _ _ _ => (0xF803, 0x7000)
  | .stwIdx _ _ _ => (0xF803, 0x7800)
  | .ldbInc _ _ _ => (0xF803, 0x6001)
  | .ldwInc _ _ _ => (0xF803, 0x6801)
  | .stbInc _ _ _ => (0xF803, 0x7001)
  | .stwInc _ _ _ => (0xF803, 0x7801)
  | .ldbDec _ _ _ => (0xF803, 0x6002)
  | .ldwDec _ _ _ => (0xF803, 0x6802)
  | .stbDec _ _ _ => (0xF803, 0x7002)
  | .stwDec _ _ _ => (0xF803, 0x7802)
  | .bfext _ _ _ => (0xF803, 0x6003)
  | .bfins _ _ _ => (0xF803, 0x6803)
  | .bfinsi _ _ _ => (0xF803, 0x7003)
  | .bfinsx _ _ _ => (0xF803, 0x7803)
  | .andl _ _ => (0xF800, 0x8000)
  | .andh _ _ => (0xF800, 0x8800)
  | .bitl _ _ => (0xF800, 0x9000)
  | .bith _ _ => (0xF800, 0x9800)
  | .orl _ _ => (0xF800, 0xA000)
  | .orh _ _ => (0xF800, 0xA800)
  | .xnorl _ _ => (0xF800, 0xB000)
  | .xnorh _ _ => (0xF800, 0xB800)
  | .subl _ _ => (0xF800, 0xC000)
  | .subh _ _ => (0xF800, 0xC800)
  | .cmpl _ _ => (0xF800, 0xD000)
  | .cpch _ _ => (0xF800, 0xD800)
  | .addl _ _ => (0xF800, 0xE000)
  | .addh _ _ => (0xF800, 0xE800)
  | .ldl _ _ => (0xF800, 0xF000)
  | .ldh _ _ => (0xF800, 0xF800)

/-- A field leaves no bit under a mask that has none of its bits. -/
theorem put_masked {n : Nat} {lo : Nat} {m : Word} (b : BitVec n) (h : put lo (BitVec.allOnes n) &&& m = 0) :
    put lo b &&& m = 0 := by
  apply BitVec.eq_of_getLsbD_eq
  intro i hi
  have := congrArg (fun w : Word => w.getLsbD i) h
  simp only [put, BitVec.getLsbD_and, BitVec.getLsbD_shiftLeft, BitVec.getLsbD_setWidth, BitVec.getLsbD_allOnes, hi,
    decide_true, Bool.true_and] at this ⊢
  by_cases hn : i - lo < n
  · cases h1 : decide (i < lo) <;> cases h2 : decide (i - lo < 16) <;> simp_all
  · simp [BitVec.getLsbD_of_ge b _ (Nat.le_of_not_lt hn)]

theorem fits1 {n l : Nat} {a : BitVec n} {v m : Word} (hv : v &&& m = v) (h : put l (BitVec.allOnes n) &&& m = 0) :
    (v ||| put l a) &&& m = v := by
  rw [BitVec.and_comm, BitVec.and_or_distrib_left]
  simp [BitVec.and_comm m, hv, put_masked a h]

theorem fits2 {n p l k : Nat} {a : BitVec n} {b : BitVec p} {v m : Word} (hv : v &&& m = v)
    (h : put l (BitVec.allOnes n) &&& m = 0) (h' : put k (BitVec.allOnes p) &&& m = 0) :
    (v ||| put l a ||| put k b) &&& m = v := by
  rw [BitVec.and_comm, BitVec.and_or_distrib_left, BitVec.and_comm m, BitVec.and_comm m, fits1 hv h, put_masked b h']
  simp

theorem fits3 {n p q l k j : Nat} {a : BitVec n} {b : BitVec p} {c : BitVec q} {v m : Word} (hv : v &&& m = v)
    (h : put l (BitVec.allOnes n) &&& m = 0) (h' : put k (BitVec.allOnes p) &&& m = 0)
    (h'' : put j (BitVec.allOnes q) &&& m = 0) : (v ||| put l a ||| put k b ||| put j c) &&& m = v := by
  rw [BitVec.and_comm, BitVec.and_or_distrib_left, BitVec.and_comm m, BitVec.and_comm m, fits2 hv h h',
    put_masked c h'']
  simp

/-- The fixed bits of the encoding are those of the row. -/
def Statement (i : Instr) : Prop := encode i &&& (row i).1 = (row i).2

theorem brk : Statement (.brk) :=
  rfl

theorem nop : Statement (.nop) :=
  rfl

theorem rts : Statement (.rts) :=
  rfl

theorem sif : Statement (.sif) :=
  rfl

theorem csemImm (k : BitVec 3) : Statement (.csemImm k) :=
  fits1 (m := 0xF8FF) (by decide) (by decide)

theorem csemReg (rs : Reg) : Statement (.csemReg rs) :=
  fits1 (m := 0xF8FF) (by decide) (by decide)

theorem ssemImm (k : BitVec 3) : Statement (.ssemImm k) :=
  fits1 (m := 0xF8FF) (by decide) (by decide)

theorem ssemReg (rs : Reg) : Statement (.ssemReg rs) :=
  fits1 (m := 0xF8FF) (by decide) (by decide)

theorem sex (rd : Reg) : Statement (.sex rd) :=
  fits1 (m := 0xF8FF) (by decide) (by decide)

theorem par (rd : Reg) : Statement (.par rd) :=
  fits1 (m := 0xF8FF) (by decide) (by decide)

theorem jal (rd : Reg) : Statement (.jal rd) :=
  fits1 (m := 0xF8FF) (by decide) (by decide)

theorem sifReg (rs : Reg) : Statement (.sifReg rs) :=
  fits1 (m := 0xF8FF) (by decide) (by decide)

theorem tfrFromCcr (rd : Reg) : Statement (.tfrFromCcr rd) :=
  fits1 (m := 0xF8FF) (by decide) (by decide)

theorem tfrToCcr (rs : Reg) : Statement (.tfrToCcr rs) :=
  fits1 (m := 0xF8FF) (by decide) (by decide)

theorem bffo (rd : Reg) (rs : Reg) : Statement (.bffo rd rs) :=
  fits2 (m := 0xF81F) (by decide) (by decide) (by decide)

theorem asrReg (rd : Reg) (rs : Reg) : Statement (.asrReg rd rs) :=
  fits2 (m := 0xF81F) (by decide) (by decide) (by decide)

theorem cslReg (rd : Reg) (rs : Reg) : Statement (.cslReg rd rs) :=
  fits2 (m := 0xF81F) (by decide) (by decide) (by decide)

theorem csrReg (rd : Reg) (rs : Reg) : Statement (.csrReg rd rs) :=
  fits2 (m := 0xF81F) (by decide) (by decide) (by decide)

theorem lslReg (rd : Reg) (rs : Reg) : Statement (.lslReg rd rs) :=
  fits2 (m := 0xF81F) (by decide) (by decide) (by decide)

theorem lsrReg (rd : Reg) (rs : Reg) : Statement (.lsrReg rd rs) :=
  fits2 (m := 0xF81F) (by decide) (by decide) (by decide)

theorem rolReg (rd : Reg) (rs : Reg) : Statement (.rolReg rd rs) :=
  fits2 (m := 0xF81F) (by decide) (by decide) (by decide)

theorem rorReg (rd : Reg) (rs : Reg) : Statement (.rorReg rd rs) :=
  fits2 (m := 0xF81F) (by decide) (by decide) (by decide)

theorem asrImm (rd : Reg) (n : BitVec 4) : Statement (.asrImm rd n) :=
  fits2 (m := 0xF80F) (by decide) (by decide) (by decide)

theorem cslImm (rd : Reg) (n : BitVec 4) : Statement (.cslImm rd n) :=
  fits2 (m := 0xF80F) (by decide) (by decide) (by decide)

theorem csrImm (rd : Reg) (n : BitVec 4) : Statement (.csrImm rd n) :=
  fits2 (m := 0xF80F) (by decide) (by decide) (by decide)

theorem lslImm (rd : Reg) (n : BitVec 4) : Statement (.lslImm rd n) :=
  fits2 (m := 0xF80F) (by decide) (by decide) (by decide)

theorem lsrImm (rd : Reg) (n : BitVec 4) : Statement (.lsrImm rd n) :=
  fits2 (m := 0xF80F) (by decide) (by decide) (by decide)

theorem rolImm (rd : Reg) (n : BitVec 4) : Statement (.rolImm rd n) :=
  fits2 (m := 0xF80F) (by decide) (by decide) (by decide)

theorem rorImm (rd : Reg) (n : BitVec 4) : Statement (.rorImm rd n) :=
  fits2 (m := 0xF80F) (by decide) (by decide) (by decide)

theorem and (rd : Reg) (rs1 : Reg) (rs2 : Reg) : Statement (.and rd rs1 rs2) :=
  fits3 (m := 0xF803) (by decide) (by decide) (by decide) (by decide)

theorem or (rd : Reg) (rs1 : Reg) (rs2 : Reg) : Statement (.or rd rs1 rs2) :=
  fits3 (m := 0xF803) (by decide) (by decide) (by decide) (by decide)

theorem xnor (rd : Reg) (rs1 : Reg) (rs2 : Reg) : Statement (.xnor rd rs1 rs2) :=
  fits3 (m := 0xF803) (by decide) (by decide) (by decide) (by decide)

theorem sub (rd : Reg) (rs1 : Reg) (rs2 : Reg) : Statement (.sub rd rs1 rs2) :=
  fits3 (m := 0xF803) (by decide) (by decide) (by decide) (by decide)

theorem sbc (rd : Reg) (rs1 : Reg) (rs2 : Reg) : Statement (.sbc rd rs1 rs2) :=
  fits3 (m := 0xF803) (by decide) (by decide) (by decide) (by decide)

theorem add (rd : Reg) (rs1 : Reg) (rs2 : Reg) : Statement (.add rd rs1 rs2) :=
  fits3 (m := 0xF803) (by decide) (by decide) (by decide) (by decide)

theorem adc (rd : Reg) (rs1 : Reg) (rs2 : Reg) : Statement (.adc rd rs1 rs2) :=
  fits3 (m := 0xF803) (by decide) (by decide) (by decide) (by decide)

theorem bcc (rel : BitVec 9) : Statement (.bcc rel) :=
  fits1 (m := 0xFE00) (by decide) (by decide)

theorem bcs (rel : BitVec 9) : Statement (.bcs rel) :=
  fits1 (m := 0xFE00) (by decide) (by decide)

theorem bne (rel : BitVec 9) : Statement (.bne rel) :=
  fits1 (m := 0xFE00) (by decide) (by decide)

theorem beq (rel : BitVec 9) : Statement (.beq rel) :=
  fits1 (m := 0xFE00) (by decide) (by decide)

theorem bpl (rel : BitVec 9) : Statement (.bpl rel) :=
  fits1 (m := 0xFE00) (by decide) (by decide)

theorem bmi (rel : BitVec 9) : Statement (.bmi rel) :=
  fits1 (m := 0xFE00) (by decide) (by decide)

theorem bvc (rel : BitVec 9) : Statement (.bvc rel) :=
  fits1 (m := 0xFE00) (by decide) (by decide)

theorem bvs (rel : BitVec 9) : Statement (.bvs rel) :=
  fits1 (m := 0xFE00) (by decide) (by decide)

theorem bhi (rel : BitVec 9) : Statement (.bhi rel) :=
  fits1 (m := 0xFE00) (by decide) (by decide)

theorem bls (rel : BitVec 9) : Statement (.bls rel) :=
  fits1 (m := 0xFE00) (by decide) (by decide)

theorem bge (rel : BitVec 9) : Statement (.bge rel) :=
  fits1 (m := 0xFE00) (by decide) (by decide)

theorem blt (rel : BitVec 9) : Statement (.blt rel) :=
  fits1 (m := 0xFE00) (by decide) (by decide)

theorem bgt (rel : BitVec 9) : Statement (.bgt rel) :=
  fits1 (m := 0xFE00) (by decide) (by decide)

theorem ble (rel : BitVec 9) : Statement (.ble rel) :=
  fits1 (m := 0xFE00) (by decide) (by decide)

theorem bra (rel : BitVec 10) : Statement (.bra rel) :=
  fits1 (m := 0xFC00) (by decide) (by decide)

theorem ldbOff (rd : Reg) (rb : Reg) (off : BitVec 5) : Statement (.ldbOff rd rb off) :=
  fits3 (m := 0xF800) (by decide) (by decide) (by decide) (by decide)

theorem ldwOff (rd : Reg) (rb : Reg) (off : BitVec 5) : Statement (.ldwOff rd rb off) :=
  fits3 (m := 0xF800) (by decide) (by decide) (by decide) (by decide)

theorem stbOff (rs : Reg) (rb : Reg) (off : BitVec 5) : Statement (.stbOff rs rb off) :=
  fits3 (m := 0xF800) (by decide) (by decide) (by decide) (by decide)

theorem stwOff (rs : Reg) (rb : Reg) (off : BitVec 5) : Statement (.stwOff rs rb off) :=
  fits3 (m := 0xF800) (by decide) (by decide) (by decide) (by decide)

theorem ldbIdx (rd : Reg) (rb : Reg) (ri : Reg) : Statement (.ldbIdx rd rb ri) :=
  fits3 (m := 0xF803) (by decide) (by decide) (by decide) (by decide)

theorem ldwIdx (rd : Reg) (rb : Reg) (ri : Reg) : Statement (.ldwIdx rd rb ri) :=
  fits3 (m := 0xF803) (by decide) (by decide) (by decide) (by decide)

theorem stbIdx (rs : Reg) (rb : Reg) (ri : Reg) : Statement (.stbIdx rs rb ri) :=
  fits3 (m := 0xF803) (by decide) (by decide) (by decide) (by decide)

theorem stwIdx (rs : Reg) (rb : Reg) (ri : Reg) : Statement (.stwIdx rs rb ri) :=
  fits3 (m := 0xF803) (by decide) (by decide) (by decide) (by decide)

theorem ldbInc (rd : Reg) (rb : Reg) (ri : Reg) : Statement (.ldbInc rd rb ri) :=
  fits3 (m := 0xF803) (by decide) (by decide) (by decide) (by decide)

theorem ldwInc (rd : Reg) (rb : Reg) (ri : Reg) : Statement (.ldwInc rd rb ri) :=
  fits3 (m := 0xF803) (by decide) (by decide) (by decide) (by decide)

theorem stbInc (rs : Reg) (rb : Reg) (ri : Reg) : Statement (.stbInc rs rb ri) :=
  fits3 (m := 0xF803) (by decide) (by decide) (by decide) (by decide)

theorem stwInc (rs : Reg) (rb : Reg) (ri : Reg) : Statement (.stwInc rs rb ri) :=
  fits3 (m := 0xF803) (by decide) (by decide) (by decide) (by decide)

theorem ldbDec (rd : Reg) (rb : Reg) (ri : Reg) : Statement (.ldbDec rd rb ri) :=
  fits3 (m := 0xF803) (by decide) (by decide) (by decide) (by decide)

theorem ldwDec (rd : Reg) (rb : Reg) (ri : Reg) : Statement (.ldwDec rd rb ri) :=
  fits3 (m := 0xF803) (by decide) (by decide) (by decide) (by decide)

theorem stbDec (rs : Reg) (rb : Reg) (ri : Reg) : Statement (.stbDec rs rb ri) :=
  fits3 (m := 0xF803) (by decide) (by decide) (by decide) (by decide)

theorem stwDec (rs : Reg) (rb : Reg) (ri : Reg) : Statement (.stwDec rs rb ri) :=
  fits3 (m := 0xF803) (by decide) (by decide) (by decide) (by decide)

theorem bfext (rd : Reg) (rs1 : Reg) (rs2 : Reg) : Statement (.bfext rd rs1 rs2) :=
  fits3 (m := 0xF803) (by decide) (by decide) (by decide) (by decide)

theorem bfins (rd : Reg) (rs1 : Reg) (rs2 : Reg) : Statement (.bfins rd rs1 rs2) :=
  fits3 (m := 0xF803) (by decide) (by decide) (by decide) (by decide)

theorem bfinsi (rd : Reg) (rs1 : Reg) (rs2 : Reg) : Statement (.bfinsi rd rs1 rs2) :=
  fits3 (m := 0xF803) (by decide) (by decide) (by decide) (by decide)

theorem bfinsx (rd : Reg) (rs1 : Reg) (rs2 : Reg) : Statement (.bfinsx rd rs1 rs2) :=
  fits3 (m := 0xF803) (by decide) (by decide) (by decide) (by decide)

theorem andl (rd : Reg) (k : Byte) : Statement (.andl rd k) :=
  fits2 (m := 0xF800) (by decide) (by decide) (by decide)

theorem andh (rd : Reg) (k : Byte) : Statement (.andh rd k) :=
  fits2 (m := 0xF800) (by decide) (by decide) (by decide)

theorem bitl (rd : Reg) (k : Byte) : Statement (.bitl rd k) :=
  fits2 (m := 0xF800) (by decide) (by decide) (by decide)

theorem bith (rd : Reg) (k : Byte) : Statement (.bith rd k) :=
  fits2 (m := 0xF800) (by decide) (by decide) (by decide)

theorem orl (rd : Reg) (k : Byte) : Statement (.orl rd k) :=
  fits2 (m := 0xF800) (by decide) (by decide) (by decide)

theorem orh (rd : Reg) (k : Byte) : Statement (.orh rd k) :=
  fits2 (m := 0xF800) (by decide) (by decide) (by decide)

theorem xnorl (rd : Reg) (k : Byte) : Statement (.xnorl rd k) :=
  fits2 (m := 0xF800) (by decide) (by decide) (by decide)

theorem xnorh (rd : Reg) (k : Byte) : Statement (.xnorh rd k) :=
  fits2 (m := 0xF800) (by decide) (by decide) (by decide)

theorem subl (rd : Reg) (k : Byte) : Statement (.subl rd k) :=
  fits2 (m := 0xF800) (by decide) (by decide) (by decide)

theorem subh (rd : Reg) (k : Byte) : Statement (.subh rd k) :=
  fits2 (m := 0xF800) (by decide) (by decide) (by decide)

theorem cmpl (rs : Reg) (k : Byte) : Statement (.cmpl rs k) :=
  fits2 (m := 0xF800) (by decide) (by decide) (by decide)

theorem cpch (rs : Reg) (k : Byte) : Statement (.cpch rs k) :=
  fits2 (m := 0xF800) (by decide) (by decide) (by decide)

theorem addl (rd : Reg) (k : Byte) : Statement (.addl rd k) :=
  fits2 (m := 0xF800) (by decide) (by decide) (by decide)

theorem addh (rd : Reg) (k : Byte) : Statement (.addh rd k) :=
  fits2 (m := 0xF800) (by decide) (by decide) (by decide)

theorem ldl (rd : Reg) (k : Byte) : Statement (.ldl rd k) :=
  fits2 (m := 0xF800) (by decide) (by decide) (by decide)

theorem ldh (rd : Reg) (k : Byte) : Statement (.ldh rd k) :=
  fits2 (m := 0xF800) (by decide) (by decide) (by decide)

end Sys2Proof.Laws.EncodingFitsTable
end

