-- ==== Sys2Proof/Tests/Slice0.lean ====
section
/-! SUPPORT. Tests: what WellFormed refuses, the words written out from the patterns of R136, one or two steps for each
instruction with the outcomes of spec/95_test_vectors.md, and a witness for each statement with hypotheses. -/

namespace Sys2Proof.Tests

open Sys2Proof.Machine

set_option Elab.async false

/-! ## WellFormed refuses the pre-decrement of the base register (R178) -/

theorem test_wellFormed_refuses_ldb : (Instr.ldbDec .r4 .r2 .r2).wellFormed = false := by decide
theorem test_wellFormed_refuses_ldw : (Instr.ldwDec .r4 .r2 .r2).wellFormed = false := by decide
theorem test_wellFormed_refuses_stb : (Instr.stbDec .r4 .r7 .r7).wellFormed = false := by decide
theorem test_wellFormed_refuses_stw : (Instr.stwDec .r4 .r1 .r1).wellFormed = false := by decide
theorem test_wellFormed_accepts_r0 : (Instr.ldbDec .r4 .r0 .r0).wellFormed = true := by decide

/-! ## Decoding: the pattern of each row of R136 with its fields filled in, bit 15 first -/

theorem test_decode_inherent_and_monadic :
    decodeWord 0b0000_0000_0000_0000#16 = .ok .brk ∧
    decodeWord 0b0000_0001_0000_0000#16 = .ok .nop ∧
    decodeWord 0b0000_0010_0000_0000#16 = .ok .rts ∧
    decodeWord 0b0000_0011_0000_0000#16 = .ok .sif ∧
    decodeWord 0b0000_0101_1111_0000#16 = .ok (.csemImm 0x5) ∧
    decodeWord 0b0000_0011_1111_0001#16 = .ok (.csemReg .r3) ∧
    decodeWord 0b0000_0101_1111_0010#16 = .ok (.ssemImm 0x5) ∧
    decodeWord 0b0000_0011_1111_0011#16 = .ok (.ssemReg .r3) ∧
    decodeWord 0b0000_0011_1111_0100#16 = .ok (.sex .r3) ∧
    decodeWord 0b0000_0011_1111_0101#16 = .ok (.par .r3) ∧
    decodeWord 0b0000_0011_1111_0110#16 = .ok (.jal .r3) ∧
    decodeWord 0b0000_0011_1111_0111#16 = .ok (.sifReg .r3) ∧
    decodeWord 0b0000_0011_1111_1000#16 = .ok (.tfrFromCcr .r3) ∧
    decodeWord 0b0000_0011_1111_1001#16 = .ok (.tfrToCcr .r3) := by decide +kernel

theorem test_decode_shifts :
    decodeWord 0b0000_1011_1011_0000#16 = .ok (.bffo .r3 .r5) ∧
    decodeWord 0b0000_1011_1011_0001#16 = .ok (.asrReg .r3 .r5) ∧
    decodeWord 0b0000_1011_1011_0010#16 = .ok (.cslReg .r3 .r5) ∧
    decodeWord 0b0000_1011_1011_0011#16 = .ok (.csrReg .r3 .r5) ∧
    decodeWord 0b0000_1011_1011_0100#16 = .ok (.lslReg .r3 .r5) ∧
    decodeWord 0b0000_1011_1011_0101#16 = .ok (.lsrReg .r3 .r5) ∧
    decodeWord 0b0000_1011_1011_0110#16 = .ok (.rolReg .r3 .r5) ∧
    decodeWord 0b0000_1011_1011_0111#16 = .ok (.rorReg .r3 .r5) ∧
    decodeWord 0b0000_1011_1011_1001#16 = .ok (.asrImm .r3 0xB) ∧
    decodeWord 0b0000_1011_1011_1010#16 = .ok (.cslImm .r3 0xB) ∧
    decodeWord 0b0000_1011_1011_1011#16 = .ok (.csrImm .r3 0xB) ∧
    decodeWord 0b0000_1011_1011_1100#16 = .ok (.lslImm .r3 0xB) ∧
    decodeWord 0b0000_1011_1011_1101#16 = .ok (.lsrImm .r3 0xB) ∧
    decodeWord 0b0000_1011_1011_1110#16 = .ok (.rolImm .r3 0xB) ∧
    decodeWord 0b0000_1011_1011_1111#16 = .ok (.rorImm .r3 0xB) := by decide +kernel

theorem test_decode_triadic :
    decodeWord 0b0001_0011_1011_1000#16 = .ok (.and .r3 .r5 .r6) ∧
    decodeWord 0b0001_0011_1011_1010#16 = .ok (.or .r3 .r5 .r6) ∧
    decodeWord 0b0001_0011_1011_1011#16 = .ok (.xnor .r3 .r5 .r6) ∧
    decodeWord 0b0001_1011_1011_1000#16 = .ok (.sub .r3 .r5 .r6) ∧
    decodeWord 0b0001_1011_1011_1001#16 = .ok (.sbc .r3 .r5 .r6) ∧
    decodeWord 0b0001_1011_1011_1010#16 = .ok (.add .r3 .r5 .r6) ∧
    decodeWord 0b0001_1011_1011_1011#16 = .ok (.adc .r3 .r5 .r6) := by decide +kernel

theorem test_decode_branches :
    decodeWord 0b0010_0001_0110_1101#16 = .ok (.bcc 0x16D) ∧
    decodeWord 0b0010_0011_0110_1101#16 = .ok (.bcs 0x16D) ∧
    decodeWord 0b0010_0101_0110_1101#16 = .ok (.bne 0x16D) ∧
    decodeWord 0b0010_0111_0110_1101#16 = .ok (.beq 0x16D) ∧
    decodeWord 0b0010_1001_0110_1101#16 = .ok (.bpl 0x16D) ∧
    decodeWord 0b0010_1011_0110_1101#16 = .ok (.bmi 0x16D) ∧
    decodeWord 0b0010_1101_0110_1101#16 = .ok (.bvc 0x16D) ∧
    decodeWord 0b0010_1111_0110_1101#16 = .ok (.bvs 0x16D) ∧
    decodeWord 0b0011_0001_0110_1101#16 = .ok (.bhi 0x16D) ∧
    decodeWord 0b0011_0011_0110_1101#16 = .ok (.bls 0x16D) ∧
    decodeWord 0b0011_0101_0110_1101#16 = .ok (.bge 0x16D) ∧
    decodeWord 0b0011_0111_0110_1101#16 = .ok (.blt 0x16D) ∧
    decodeWord 0b0011_1001_0110_1101#16 = .ok (.bgt 0x16D) ∧
    decodeWord 0b0011_1011_0110_1101#16 = .ok (.ble 0x16D) ∧
    decodeWord 0b0011_1110_1011_0111#16 = .ok (.bra 0x2B7) := by decide +kernel

theorem test_decode_offset :
    decodeWord 0b0100_0011_1011_0011#16 = .ok (.ldbOff .r3 .r5 0x13) ∧
    decodeWord 0b0100_1011_1011_0011#16 = .ok (.ldwOff .r3 .r5 0x13) ∧
    decodeWord 0b0101_0011_1011_0011#16 = .ok (.stbOff .r3 .r5 0x13) ∧
    decodeWord 0b0101_1011_1011_0011#16 = .ok (.stwOff .r3 .r5 0x13) := by decide +kernel

theorem test_decode_register_offset :
    decodeWord 0b0110_0011_1011_1000#16 = .ok (.ldbIdx .r3 .r5 .r6) ∧
    decodeWord 0b0110_1011_1011_1000#16 = .ok (.ldwIdx .r3 .r5 .r6) ∧
    decodeWord 0b0111_0011_1011_1000#16 = .ok (.stbIdx .r3 .r5 .r6) ∧
    decodeWord 0b0111_1011_1011_1000#16 = .ok (.stwIdx .r3 .r5 .r6) ∧
    decodeWord 0b0110_0011_1011_1001#16 = .ok (.ldbInc .r3 .r5 .r6) ∧
    decodeWord 0b0110_1011_1011_1001#16 = .ok (.ldwInc .r3 .r5 .r6) ∧
    decodeWord 0b0111_0011_1011_1001#16 = .ok (.stbInc .r3 .r5 .r6) ∧
    decodeWord 0b0111_1011_1011_1001#16 = .ok (.stwInc .r3 .r5 .r6) ∧
    decodeWord 0b0110_0011_1011_1010#16 = .ok (.ldbDec .r3 .r5 .r6) ∧
    decodeWord 0b0110_1011_1011_1010#16 = .ok (.ldwDec .r3 .r5 .r6) ∧
    decodeWord 0b0111_0011_1011_1010#16 = .ok (.stbDec .r3 .r5 .r6) ∧
    decodeWord 0b0111_1011_1011_1010#16 = .ok (.stwDec .r3 .r5 .r6) := by decide +kernel

theorem test_decode_bit_fields :
    decodeWord 0b0110_0011_1011_1011#16 = .ok (.bfext .r3 .r5 .r6) ∧
    decodeWord 0b0110_1011_1011_1011#16 = .ok (.bfins .r3 .r5 .r6) ∧
    decodeWord 0b0111_0011_1011_1011#16 = .ok (.bfinsi .r3 .r5 .r6) ∧
    decodeWord 0b0111_1011_1011_1011#16 = .ok (.bfinsx .r3 .r5 .r6) := by decide +kernel

theorem test_decode_immediates :
    decodeWord 0b1000_0011_1100_0101#16 = .ok (.andl .r3 0xC5) ∧
    decodeWord 0b1000_1011_1100_0101#16 = .ok (.andh .r3 0xC5) ∧
    decodeWord 0b1001_0011_1100_0101#16 = .ok (.bitl .r3 0xC5) ∧
    decodeWord 0b1001_1011_1100_0101#16 = .ok (.bith .r3 0xC5) ∧
    decodeWord 0b1010_0011_1100_0101#16 = .ok (.orl .r3 0xC5) ∧
    decodeWord 0b1010_1011_1100_0101#16 = .ok (.orh .r3 0xC5) ∧
    decodeWord 0b1011_0011_1100_0101#16 = .ok (.xnorl .r3 0xC5) ∧
    decodeWord 0b1011_1011_1100_0101#16 = .ok (.xnorh .r3 0xC5) ∧
    decodeWord 0b1100_0011_1100_0101#16 = .ok (.subl .r3 0xC5) ∧
    decodeWord 0b1100_1011_1100_0101#16 = .ok (.subh .r3 0xC5) ∧
    decodeWord 0b1101_0011_1100_0101#16 = .ok (.cmpl .r3 0xC5) ∧
    decodeWord 0b1101_1011_1100_0101#16 = .ok (.cpch .r3 0xC5) ∧
    decodeWord 0b1110_0011_1100_0101#16 = .ok (.addl .r3 0xC5) ∧
    decodeWord 0b1110_1011_1100_0101#16 = .ok (.addh .r3 0xC5) ∧
    decodeWord 0b1111_0011_1100_0101#16 = .ok (.ldl .r3 0xC5) ∧
    decodeWord 0b1111_1011_1100_0101#16 = .ok (.ldh .r3 0xC5) := by decide +kernel

/-- The illegal words of spec/95 section 2.9, and too short a stream. -/
theorem test_decode_illegal :
    [0x0001#16, 0x0400, 0x00FA, 0x07FF, 0x0800, 0x0808, 0x0818, 0x1001, 0x17FD].all
      (fun w => decodeWord w == .error (.illegalOpcode w)) = true ∧
    decodeBytes [0x01] = .error .truncated ∧ decodeBytes [0x01, 0x00, 0xFF] = .ok (.nop, [0xFF]) := by
  decide +kernel

theorem test_decodeTableWord : decodeTableWord 16 0xF380 = some (.ldl .r3 0x80) := by decide +kernel

/-! ## One step for each instruction (spec/95_test_vectors.md) -/

/-- A thread of channel $20 about to execute the word `w` at `pc`. -/
def boot (pc w : Word) (f : BitVec 4) (rs : List (Reg × Word)) (mem : List (Word × Byte))
    (sems : List (BitVec 3 × SemState)) : State :=
  let s : State := { State.reset with xge := true, xgchid := 0x20, pc := pc, ccr := CCR.ofBits f }
  let s := rs.foldl (fun (s : State) (p : Reg × Word) => s.setReg p.1 p.2) s
  let s := sems.foldl (fun (s : State) (p : BitVec 3 × SemState) => { s with sem := s.sem.set p.1 p.2 }) s
  (mem.foldl (fun (s : State) (p : Word × Byte) => s.setRamByte p.1 p.2) s).setRamWord pc w

/-- Whether a step answers a next state with the property. -/
def nextIs (o : Host.Outcome State Fault Refusal) (p : State → Bool) : Bool :=
  match o with
  | .next t => p t
  | _ => false

/-- LDB R4,(R1,#2) -/
theorem test_ldbOff_1 :
    nextIs (step (boot 0xC000 0x4422 0b0000 [(.r1, 0xB200)] [(0xB202, 0xFF)] [])) (fun t =>
      t.reg .r4 == 0x00FF && t.pc == 0xC002 && t.ccr == CCR.ofBits 0b0000) = true := by decide +kernel

/-- LDB R4,(R1,#0) -/
theorem test_ldbOff_2 :
    nextIs (step (boot 0xC000 0x4420 0b0000 [(.r1, 0x8000)] [] [])) (fun t =>
      t.xgsweif && t.xgchid == 0x20) = true := by decide +kernel

/-- LDW R2,(R1,#0) -/
theorem test_ldwOff_1 :
    nextIs (step (boot 0xC000 0x4A20 0b0000 [(.r1, 0xB200)] [(0xB200, 0x00), (0xB201, 0xC8)] [])) (fun t =>
      t.reg .r2 == 0x00C8 && t.pc == 0xC002 && t.ccr == CCR.ofBits 0b0000) = true := by decide +kernel

/-- LDW R4,(R1,#2) -/
theorem test_ldwOff_2 :
    nextIs (step (boot 0xC000 0x4C22 0b0000 [(.r1, 0xB201)] [] [])) (fun t =>
      t.xgsweif && t.xgchid == 0x20) = true := by decide +kernel

/-- STB R3,(R1,#2) -/
theorem test_stbOff_1 :
    nextIs (step (boot 0xC000 0x5322 0b0000 [(.r1, 0xB200), (.r3, 0x1234)] [(0xB202, 0xAA), (0xB203, 0xBB)] [])) (fun t =>
      t.ramByte 0xB202 == 0x34 && t.pc == 0xC002 && t.ccr == CCR.ofBits 0b0000) = true := by decide +kernel

/-- STB R0,(R1,#0) -/
theorem test_stbOff_2 :
    nextIs (step (boot 0xC000 0x5020 0b0000 [(.r1, 0xB200)] [(0xB200, 0x55)] [])) (fun t =>
      t.ramByte 0xB200 == 0x00 && t.pc == 0xC002 && t.ccr == CCR.ofBits 0b0000) = true := by decide +kernel

/-- STW R3,(R1,#4) -/
theorem test_stwOff_1 :
    nextIs (step (boot 0xC000 0x5B24 0b0000 [(.r1, 0xB200), (.r3, 0x1234)] [] [])) (fun t =>
      t.ramByte 0xB204 == 0x12 && t.ramByte 0xB205 == 0x34 && t.pc == 0xC002 && t.ccr == CCR.ofBits 0b0000) = true := by decide +kernel

/-- STW R3,(R1,#0) -/
theorem test_stwOff_2 :
    nextIs (step (boot 0xC000 0x5B20 0b0000 [(.r1, 0x0800), (.r3, 0x1234)] [] [])) (fun t =>
      t.xgsweif && t.xgchid == 0x20) = true := by decide +kernel

/-- LDB R4,(R1,R2) -/
theorem test_ldbIdx :
    nextIs (step (boot 0xC000 0x6428 0b0000 [(.r1, 0xB200), (.r2, 0x0003)] [(0xB203, 0x48)] [])) (fun t =>
      t.reg .r4 == 0x0048 && t.pc == 0xC002 && t.ccr == CCR.ofBits 0b0000) = true := by decide +kernel

/-- LDW R4,(R1,R2) -/
theorem test_ldwIdx_1 :
    nextIs (step (boot 0xC000 0x6C28 0b0000 [(.r1, 0xB200), (.r2, 0x0004)] [(0xB204, 0x12), (0xB205, 0x34)] [])) (fun t =>
      t.reg .r4 == 0x1234 && t.pc == 0xC002 && t.ccr == CCR.ofBits 0b0000) = true := by decide +kernel

/-- LDW R4,(R1,R2) -/
theorem test_ldwIdx_2 :
    nextIs (step (boot 0xC000 0x6C28 0b0000 [(.r1, 0xFFFE), (.r2, 0xB206)] [(0xB204, 0x12), (0xB205, 0x34)] [])) (fun t =>
      t.reg .r4 == 0x1234 && t.pc == 0xC002 && t.ccr == CCR.ofBits 0b0000) = true := by decide +kernel

/-- STB R4,(R1,R2) -/
theorem test_stbIdx :
    nextIs (step (boot 0xC000 0x7428 0b0000 [(.r1, 0xB200), (.r2, 0x0003), (.r4, 0xABCD)] [] [])) (fun t =>
      t.ramByte 0xB203 == 0xCD && t.pc == 0xC002 && t.ccr == CCR.ofBits 0b0000) = true := by decide +kernel

/-- STW R4,(R1,R2) -/
theorem test_stwIdx :
    nextIs (step (boot 0xC000 0x7C28 0b0000 [(.r1, 0xB200), (.r2, 0x0004), (.r4, 0xABCD)] [] [])) (fun t =>
      t.ramByte 0xB204 == 0xAB && t.ramByte 0xB205 == 0xCD && t.pc == 0xC002 && t.ccr == CCR.ofBits 0b0000) = true := by decide +kernel

/-- LDB R4,(R1,R3+) -/
theorem test_ldbInc_1 :
    nextIs (step (boot 0xC000 0x642D 0b0000 [(.r1, 0xB200), (.r3, 0x0003)] [(0xB203, 0x48)] [])) (fun t =>
      t.reg .r3 == 0x0004 && t.reg .r4 == 0x0048 && t.pc == 0xC002 && t.ccr == CCR.ofBits 0b0000) = true := by decide +kernel

/-- LDB R4,(R1,R0+) -/
theorem test_ldbInc_2 :
    nextIs (step (boot 0xC000 0x6421 0b0000 [(.r1, 0xB200)] [(0xB200, 0x77)] [])) (fun t =>
      t.reg .r4 == 0x0077 && t.pc == 0xC002 && t.ccr == CCR.ofBits 0b0000) = true := by decide +kernel

/-- LDW R4,(R1,R3+) -/
theorem test_ldwInc_1 :
    nextIs (step (boot 0xC000 0x6C2D 0b0000 [(.r1, 0xB200), (.r3, 0x0004)] [(0xB204, 0x12), (0xB205, 0x34)] [])) (fun t =>
      t.reg .r3 == 0x0006 && t.reg .r4 == 0x1234 && t.pc == 0xC002 && t.ccr == CCR.ofBits 0b0000) = true := by decide +kernel

/-- LDW R4,(R1,R3+) -/
theorem test_ldwInc_2 :
    nextIs (step (boot 0xC000 0x6C2D 0b0000 [(.r1, 0xB200), (.r3, 0x0003)] [] [])) (fun t =>
      t.xgsweif && t.xgchid == 0x20) = true := by decide +kernel

/-- STB R4,(R1,R3+) -/
theorem test_stbInc :
    nextIs (step (boot 0xC000 0x742D 0b0000 [(.r1, 0xB200), (.r3, 0x0003), (.r4, 0x00EE)] [] [])) (fun t =>
      t.reg .r3 == 0x0004 && t.ramByte 0xB203 == 0xEE && t.pc == 0xC002 && t.ccr == CCR.ofBits 0b0000) = true := by decide +kernel

/-- STW R4,(R1,R3+) -/
theorem test_stwInc_1 :
    nextIs (step (boot 0xC000 0x7C2D 0b0000 [(.r1, 0xB200), (.r3, 0x0004), (.r4, 0xABCD)] [] [])) (fun t =>
      t.reg .r3 == 0x0006 && t.ramByte 0xB204 == 0xAB && t.ramByte 0xB205 == 0xCD && t.pc == 0xC002 && t.ccr == CCR.ofBits 0b0000) = true := by decide +kernel

/-- STW R3,(R1,R3+) -/
theorem test_stwInc_2 :
    nextIs (step (boot 0xC000 0x7B2D 0b0000 [(.r1, 0xB200), (.r3, 0x0004)] [] [])) (fun t =>
      t.reg .r3 == 0x0006 && t.ramByte 0xB204 == 0x00 && t.ramByte 0xB205 == 0x04 && t.pc == 0xC002 && t.ccr == CCR.ofBits 0b0000) = true := by decide +kernel

/-- LDB R4,(R1,-R2) -/
theorem test_ldbDec_1 :
    nextIs (step (boot 0xC000 0x642A 0b0000 [(.r1, 0xB200), (.r2, 0x0004)] [(0xB203, 0x48)] [])) (fun t =>
      t.reg .r2 == 0x0003 && t.reg .r4 == 0x0048 && t.pc == 0xC002 && t.ccr == CCR.ofBits 0b0000) = true := by decide +kernel

/-- LDB R4,(R1,-R2) -/
theorem test_ldbDec_2 :
    nextIs (step (boot 0xC000 0x642A 0b0000 [(.r1, 0xB200), (.r2, 0x0000)] [(0xB1FF, 0x99)] [])) (fun t =>
      t.reg .r2 == 0xFFFF && t.reg .r4 == 0x0099 && t.pc == 0xC002 && t.ccr == CCR.ofBits 0b0000) = true := by decide +kernel

/-- LDW R4,(R1,-R2) -/
theorem test_ldwDec_1 :
    nextIs (step (boot 0xC000 0x6C2A 0b0000 [(.r1, 0xB200), (.r2, 0x0006)] [(0xB204, 0x12), (0xB205, 0x34)] [])) (fun t =>
      t.reg .r2 == 0x0004 && t.reg .r4 == 0x1234 && t.pc == 0xC002 && t.ccr == CCR.ofBits 0b0000) = true := by decide +kernel

/-- LDW R2,(R1,-R2) -/
theorem test_ldwDec_2 :
    nextIs (step (boot 0xC000 0x6A2A 0b0000 [(.r1, 0xB200), (.r2, 0x0006)] [(0xB204, 0x12), (0xB205, 0x34)] [])) (fun t =>
      t.reg .r2 == 0x1234 && t.pc == 0xC002 && t.ccr == CCR.ofBits 0b0000) = true := by decide +kernel

/-- STB R4,(R1,-R2) -/
theorem test_stbDec_1 :
    nextIs (step (boot 0xC000 0x742A 0b0000 [(.r1, 0xB200), (.r2, 0x0004), (.r4, 0x00EE)] [] [])) (fun t =>
      t.reg .r2 == 0x0003 && t.ramByte 0xB203 == 0xEE && t.pc == 0xC002 && t.ccr == CCR.ofBits 0b0000) = true := by decide +kernel

/-- STB R2,(R1,-R2) -/
theorem test_stbDec_2 :
    nextIs (step (boot 0xC000 0x722A 0b0000 [(.r1, 0xB200), (.r2, 0x0104)] [] [])) (fun t =>
      t.reg .r2 == 0x0103 && t.ramByte 0xB303 == 0x04 && t.pc == 0xC002 && t.ccr == CCR.ofBits 0b0000) = true := by decide +kernel

/-- STW R4,(R1,-R2) -/
theorem test_stwDec_1 :
    nextIs (step (boot 0xC000 0x7C2A 0b0000 [(.r1, 0xB200), (.r2, 0x0006), (.r4, 0xABCD)] [] [])) (fun t =>
      t.reg .r2 == 0x0004 && t.ramByte 0xB204 == 0xAB && t.ramByte 0xB205 == 0xCD && t.pc == 0xC002 && t.ccr == CCR.ofBits 0b0000) = true := by decide +kernel

/-- STW R2,(R1,-R2) -/
theorem test_stwDec_2 :
    nextIs (step (boot 0xC000 0x7A2A 0b0000 [(.r1, 0xB200), (.r2, 0x0006)] [] [])) (fun t =>
      t.reg .r2 == 0x0004 && t.ramByte 0xB204 == 0x00 && t.ramByte 0xB205 == 0x06 && t.pc == 0xC002 && t.ccr == CCR.ofBits 0b0000) = true := by decide +kernel

/-- LDL R3,#$80 -/
theorem test_ldl_1 :
    nextIs (step (boot 0xC000 0xF380 0b1111 [(.r3, 0xFFFF)] [] [])) (fun t =>
      t.reg .r3 == 0x0080 && t.pc == 0xC002 && t.ccr == CCR.ofBits 0b1111) = true := by decide +kernel

/-- LDL R0,#$55 -/
theorem test_ldl_2 :
    nextIs (step (boot 0xC000 0xF055 0b0000 [] [] [])) (fun t =>
      t.pc == 0xC002 && t.ccr == CCR.ofBits 0b0000) = true := by decide +kernel

/-- LDH R3,#$AB -/
theorem test_ldh_1 :
    nextIs (step (boot 0xC000 0xFBAB 0b0101 [(.r3, 0x00CD)] [] [])) (fun t =>
      t.reg .r3 == 0xABCD && t.pc == 0xC002 && t.ccr == CCR.ofBits 0b0101) = true := by decide +kernel

/-- word $FFFF -/
theorem test_ldh_2 :
    nextIs (step (boot 0xC000 0xFFFF 0b0000 [] [] [])) (fun t =>
      t.reg .r7 == 0xFF00 && t.pc == 0xC002 && t.ccr == CCR.ofBits 0b0000) = true := by decide +kernel

/-- ADD R3,R4,R5 -/
theorem test_add_1 :
    nextIs (step (boot 0xC000 0x1B96 0b0000 [(.r4, 0xFFFF), (.r5, 0x0001)] [] [])) (fun t =>
      t.reg .r3 == 0x0000 && t.pc == 0xC002 && t.ccr == CCR.ofBits 0b0101) = true := by decide +kernel

/-- ADD R3,R4,R5 -/
theorem test_add_2 :
    nextIs (step (boot 0xC000 0x1B96 0b0000 [(.r4, 0x8000), (.r5, 0x8000)] [] [])) (fun t =>
      t.reg .r3 == 0x0000 && t.pc == 0xC002 && t.ccr == CCR.ofBits 0b0111) = true := by decide +kernel

/-- ADC R3,R4,R5 -/
theorem test_adc_1 :
    nextIs (step (boot 0xC000 0x1B97 0b0001 [(.r4, 0xFFFF), (.r5, 0x0000)] [] [])) (fun t =>
      t.reg .r3 == 0x0000 && t.pc == 0xC002 && t.ccr == CCR.ofBits 0b0001) = true := by decide +kernel

/-- ADC R3,R4,R5 -/
theorem test_adc_2 :
    nextIs (step (boot 0xC000 0x1B97 0b0001 [(.r4, 0x7FFF), (.r5, 0x0000)] [] [])) (fun t =>
      t.reg .r3 == 0x8000 && t.pc == 0xC002 && t.ccr == CCR.ofBits 0b1010) = true := by decide +kernel

/-- SUB R3,R4,R5 -/
theorem test_sub_1 :
    nextIs (step (boot 0xC000 0x1B94 0b1011 [(.r4, 0x1234), (.r5, 0x1234)] [] [])) (fun t =>
      t.reg .r3 == 0x0000 && t.pc == 0xC002 && t.ccr == CCR.ofBits 0b0100) = true := by decide +kernel

/-- SUB R3,R4,R5 -/
theorem test_sub_2 :
    nextIs (step (boot 0xC000 0x1B94 0b0000 [(.r4, 0x7FFF), (.r5, 0xFFFF)] [] [])) (fun t =>
      t.reg .r3 == 0x8000 && t.pc == 0xC002 && t.ccr == CCR.ofBits 0b1011) = true := by decide +kernel

/-- SBC R3,R4,R5 -/
theorem test_sbc_1 :
    nextIs (step (boot 0xC000 0x1B95 0b0101 [(.r4, 0x0000), (.r5, 0x0000)] [] [])) (fun t =>
      t.reg .r3 == 0xFFFF && t.pc == 0xC002 && t.ccr == CCR.ofBits 0b1001) = true := by decide +kernel

/-- SBC R3,R4,R5 -/
theorem test_sbc_2 :
    nextIs (step (boot 0xC000 0x1B95 0b0001 [(.r4, 0x0001), (.r5, 0x0000)] [] [])) (fun t =>
      t.reg .r3 == 0x0000 && t.pc == 0xC002 && t.ccr == CCR.ofBits 0b0000) = true := by decide +kernel

/-- ADDL R2,#$01 -/
theorem test_addl_1 :
    nextIs (step (boot 0xC000 0xE201 0b0000 [(.r2, 0x00FF)] [] [])) (fun t =>
      t.reg .r2 == 0x0100 && t.pc == 0xC002 && t.ccr == CCR.ofBits 0b0000) = true := by decide +kernel

/-- ADDL R2,#$FF -/
theorem test_addl_2 :
    nextIs (step (boot 0xC000 0xE2FF 0b0000 [(.r2, 0x7FFF)] [] [])) (fun t =>
      t.reg .r2 == 0x80FE && t.pc == 0xC002 && t.ccr == CCR.ofBits 0b1010) = true := by decide +kernel

/-- ADDH R2,#$80 -/
theorem test_addh_1 :
    nextIs (step (boot 0xC000 0xEA80 0b0000 [(.r2, 0x8034)] [] [])) (fun t =>
      t.reg .r2 == 0x0034 && t.pc == 0xC002 && t.ccr == CCR.ofBits 0b0011) = true := by decide +kernel

/-- ADDH R2,#$01 -/
theorem test_addh_2 :
    nextIs (step (boot 0xC000 0xEA01 0b0000 [(.r2, 0xFF00)] [] [])) (fun t =>
      t.reg .r2 == 0x0000 && t.pc == 0xC002 && t.ccr == CCR.ofBits 0b0101) = true := by decide +kernel

/-- SUBL R2,#$01 -/
theorem test_subl_1 :
    nextIs (step (boot 0xC000 0xC201 0b0000 [(.r2, 0x0100)] [] [])) (fun t =>
      t.reg .r2 == 0x00FF && t.pc == 0xC002 && t.ccr == CCR.ofBits 0b0000) = true := by decide +kernel

/-- SUBL R2,#$01 -/
theorem test_subl_2 :
    nextIs (step (boot 0xC000 0xC201 0b0000 [(.r2, 0x8000)] [] [])) (fun t =>
      t.reg .r2 == 0x7FFF && t.pc == 0xC002 && t.ccr == CCR.ofBits 0b0010) = true := by decide +kernel

/-- SUBH R2,#$12 -/
theorem test_subh_1 :
    nextIs (step (boot 0xC000 0xCA12 0b0000 [(.r2, 0x1234)] [] [])) (fun t =>
      t.reg .r2 == 0x0034 && t.pc == 0xC002 && t.ccr == CCR.ofBits 0b0000) = true := by decide +kernel

/-- SUBH R2,#$01 -/
theorem test_subh_2 :
    nextIs (step (boot 0xC000 0xCA01 0b0000 [(.r2, 0x0034)] [] [])) (fun t =>
      t.reg .r2 == 0xFF34 && t.pc == 0xC002 && t.ccr == CCR.ofBits 0b1001) = true := by decide +kernel

/-- CMPL R4,#$0D -/
theorem test_cmpl_1 :
    nextIs (step (boot 0xC000 0xD40D 0b0000 [(.r4, 0x120D)] [] [])) (fun t =>
      t.pc == 0xC002 && t.ccr == CCR.ofBits 0b0100) = true := by decide +kernel

/-- CMPL R4,#$0D -/
theorem test_cmpl_2 :
    nextIs (step (boot 0xC000 0xD40D 0b1111 [(.r4, 0x0048)] [] [])) (fun t =>
      t.pc == 0xC002 && t.ccr == CCR.ofBits 0b0000) = true := by decide +kernel

/-- CPCH R2,#$12 -/
theorem test_cpch_1 :
    nextIs (step (boot 0xC000 0xDA12 0b0100 [(.r2, 0x1234)] [] [])) (fun t =>
      t.pc == 0xC002 && t.ccr == CCR.ofBits 0b0100) = true := by decide +kernel

/-- CPCH R2,#$01 -/
theorem test_cpch_2 :
    nextIs (step (boot 0xC000 0xDA01 0b0100 [(.r2, 0x8000)] [] [])) (fun t =>
      t.pc == 0xC002 && t.ccr == CCR.ofBits 0b0010) = true := by decide +kernel

/-- AND R3,R4,R5 -/
theorem test_and_1 :
    nextIs (step (boot 0xC000 0x1394 0b0011 [(.r4, 0xFF00), (.r5, 0x0FF0)] [] [])) (fun t =>
      t.reg .r3 == 0x0F00 && t.pc == 0xC002 && t.ccr == CCR.ofBits 0b0001) = true := by decide +kernel

/-- AND R0,R4,R5 -/
theorem test_and_2 :
    nextIs (step (boot 0xC000 0x1094 0b0000 [(.r4, 0x8000), (.r5, 0xFFFF)] [] [])) (fun t =>
      t.pc == 0xC002 && t.ccr == CCR.ofBits 0b1000) = true := by decide +kernel

/-- OR R3,R4,R5 -/
theorem test_or_1 :
    nextIs (step (boot 0xC000 0x1396 0b0111 [(.r4, 0xFF00), (.r5, 0x00F0)] [] [])) (fun t =>
      t.reg .r3 == 0xFFF0 && t.pc == 0xC002 && t.ccr == CCR.ofBits 0b1001) = true := by decide +kernel

/-- OR R3,R0,R0 -/
theorem test_or_2 :
    nextIs (step (boot 0xC000 0x1302 0b1011 [] [] [])) (fun t =>
      t.reg .r3 == 0x0000 && t.pc == 0xC002 && t.ccr == CCR.ofBits 0b0101) = true := by decide +kernel

/-- XNOR R3,R4,R5 -/
theorem test_xnor_1 :
    nextIs (step (boot 0xC000 0x1397 0b0000 [(.r4, 0xFF00), (.r5, 0x0FF0)] [] [])) (fun t =>
      t.reg .r3 == 0x0F0F && t.pc == 0xC002 && t.ccr == CCR.ofBits 0b0000) = true := by decide +kernel

/-- XNOR R4,R0,R4 -/
theorem test_xnor_2 :
    nextIs (step (boot 0xC000 0x1413 0b0000 [(.r4, 0xFFFF)] [] [])) (fun t =>
      t.reg .r4 == 0x0000 && t.pc == 0xC002 && t.ccr == CCR.ofBits 0b0100) = true := by decide +kernel

/-- ANDL R4,#$0F -/
theorem test_andl_1 :
    nextIs (step (boot 0xC000 0x840F 0b0011 [(.r4, 0xFFFF)] [] [])) (fun t =>
      t.reg .r4 == 0xFF0F && t.pc == 0xC002 && t.ccr == CCR.ofBits 0b0001) = true := by decide +kernel

/-- ANDL R4,#$0F -/
theorem test_andl_2 :
    nextIs (step (boot 0xC000 0x840F 0b0000 [(.r4, 0xFFF0)] [] [])) (fun t =>
      t.reg .r4 == 0xFF00 && t.pc == 0xC002 && t.ccr == CCR.ofBits 0b0100) = true := by decide +kernel

/-- ANDH R4,#$FE -/
theorem test_andh_1 :
    nextIs (step (boot 0xC000 0x8CFE 0b0000 [(.r4, 0xFFFF)] [] [])) (fun t =>
      t.reg .r4 == 0xFEFF && t.pc == 0xC002 && t.ccr == CCR.ofBits 0b1000) = true := by decide +kernel

/-- ANDH R4,#$F0 -/
theorem test_andh_2 :
    nextIs (step (boot 0xC000 0x8CF0 0b0000 [(.r4, 0x0FFF)] [] [])) (fun t =>
      t.reg .r4 == 0x00FF && t.pc == 0xC002 && t.ccr == CCR.ofBits 0b0100) = true := by decide +kernel

/-- BITL R4,#$80 -/
theorem test_bitl_1 :
    nextIs (step (boot 0xC000 0x9480 0b0011 [(.r4, 0x1280)] [] [])) (fun t =>
      t.reg .r4 == 0x1280 && t.pc == 0xC002 && t.ccr == CCR.ofBits 0b1001) = true := by decide +kernel

/-- BITL R4,#$FF -/
theorem test_bitl_2 :
    nextIs (step (boot 0xC000 0x94FF 0b0000 [(.r4, 0xFF00)] [] [])) (fun t =>
      t.reg .r4 == 0xFF00 && t.pc == 0xC002 && t.ccr == CCR.ofBits 0b0100) = true := by decide +kernel

/-- BITH R4,#$80 -/
theorem test_bith_1 :
    nextIs (step (boot 0xC000 0x9C80 0b0000 [(.r4, 0x8000)] [] [])) (fun t =>
      t.reg .r4 == 0x8000 && t.pc == 0xC002 && t.ccr == CCR.ofBits 0b1000) = true := by decide +kernel

/-- BITH R4,#$FF -/
theorem test_bith_2 :
    nextIs (step (boot 0xC000 0x9CFF 0b1010 [(.r4, 0x00FF)] [] [])) (fun t =>
      t.reg .r4 == 0x00FF && t.pc == 0xC002 && t.ccr == CCR.ofBits 0b0100) = true := by decide +kernel

/-- ORL R4,#$80 -/
theorem test_orl_1 :
    nextIs (step (boot 0xC000 0xA480 0b0000 [(.r4, 0x1200)] [] [])) (fun t =>
      t.reg .r4 == 0x1280 && t.pc == 0xC002 && t.ccr == CCR.ofBits 0b1000) = true := by decide +kernel

/-- ORL R4,#$00 -/
theorem test_orl_2 :
    nextIs (step (boot 0xC000 0xA400 0b0011 [(.r4, 0xFF00)] [] [])) (fun t =>
      t.reg .r4 == 0xFF00 && t.pc == 0xC002 && t.ccr == CCR.ofBits 0b0101) = true := by decide +kernel

/-- ORH R4,#$80 -/
theorem test_orh_1 :
    nextIs (step (boot 0xC000 0xAC80 0b0000 [(.r4, 0x0034)] [] [])) (fun t =>
      t.reg .r4 == 0x8034 && t.pc == 0xC002 && t.ccr == CCR.ofBits 0b1000) = true := by decide +kernel

/-- ORH R4,#$00 -/
theorem test_orh_2 :
    nextIs (step (boot 0xC000 0xAC00 0b0000 [(.r4, 0x00FF)] [] [])) (fun t =>
      t.reg .r4 == 0x00FF && t.pc == 0xC002 && t.ccr == CCR.ofBits 0b0100) = true := by decide +kernel

/-- XNORL R4,#$0F -/
theorem test_xnorl_1 :
    nextIs (step (boot 0xC000 0xB40F 0b0000 [(.r4, 0x12F0)] [] [])) (fun t =>
      t.reg .r4 == 0x1200 && t.pc == 0xC002 && t.ccr == CCR.ofBits 0b0100) = true := by decide +kernel

/-- XNORL R4,#$FF -/
theorem test_xnorl_2 :
    nextIs (step (boot 0xC000 0xB4FF 0b0011 [(.r4, 0x1234)] [] [])) (fun t =>
      t.reg .r4 == 0x1234 && t.pc == 0xC002 && t.ccr == CCR.ofBits 0b0001) = true := by decide +kernel

/-- XNORH R4,#$00 -/
theorem test_xnorh_1 :
    nextIs (step (boot 0xC000 0xBC00 0b0000 [(.r4, 0x1234)] [] [])) (fun t =>
      t.reg .r4 == 0xED34 && t.pc == 0xC002 && t.ccr == CCR.ofBits 0b1000) = true := by decide +kernel

/-- XNORH R4,#$0F -/
theorem test_xnorh_2 :
    nextIs (step (boot 0xC000 0xBC0F 0b0000 [(.r4, 0xF034)] [] [])) (fun t =>
      t.reg .r4 == 0x0034 && t.pc == 0xC002 && t.ccr == CCR.ofBits 0b0100) = true := by decide +kernel

/-- SEX R4 -/
theorem test_sex_1 :
    nextIs (step (boot 0xC000 0x04F4 0b0011 [(.r4, 0x1280)] [] [])) (fun t =>
      t.reg .r4 == 0xFF80 && t.pc == 0xC002 && t.ccr == CCR.ofBits 0b1001) = true := by decide +kernel

/-- SEX R4 -/
theorem test_sex_2 :
    nextIs (step (boot 0xC000 0x04F4 0b1010 [(.r4, 0xAB00)] [] [])) (fun t =>
      t.reg .r4 == 0x0000 && t.pc == 0xC002 && t.ccr == CCR.ofBits 0b0100) = true := by decide +kernel

/-- PAR R4 -/
theorem test_par_1 :
    nextIs (step (boot 0xC000 0x04F5 0b0000 [(.r4, 0x0001)] [] [])) (fun t =>
      t.reg .r4 == 0x0001 && t.pc == 0xC002 && t.ccr == CCR.ofBits 0b0001) = true := by decide +kernel

/-- PAR R4 -/
theorem test_par_2 :
    nextIs (step (boot 0xC000 0x04F5 0b0000 [(.r4, 0xFFFE)] [] [])) (fun t =>
      t.reg .r4 == 0xFFFE && t.pc == 0xC002 && t.ccr == CCR.ofBits 0b0001) = true := by decide +kernel

/-- TFR R3,CCR -/
theorem test_tfrFromCcr_1 :
    nextIs (step (boot 0xC000 0x03F8 0b1010 [(.r3, 0xFFFF)] [] [])) (fun t =>
      t.reg .r3 == 0x000A && t.pc == 0xC002 && t.ccr == CCR.ofBits 0b1010) = true := by decide +kernel

/-- word $00F8 -/
theorem test_tfrFromCcr_2 :
    nextIs (step (boot 0xC000 0x00F8 0b0000 [] [] [])) (fun t =>
      t.pc == 0xC002 && t.ccr == CCR.ofBits 0b0000) = true := by decide +kernel

/-- TFR CCR,R3 -/
theorem test_tfrToCcr_1 :
    nextIs (step (boot 0xC000 0x03F9 0b0000 [(.r3, 0xFFF5)] [] [])) (fun t =>
      t.pc == 0xC002 && t.ccr == CCR.ofBits 0b0101) = true := by decide +kernel

/-- TFR CCR,R0 -/
theorem test_tfrToCcr_2 :
    nextIs (step (boot 0xC000 0x00F9 0b1111 [] [] [])) (fun t =>
      t.pc == 0xC002 && t.ccr == CCR.ofBits 0b0000) = true := by decide +kernel

/-- BCC REL9=$005 (+5) -/
theorem test_bcc_1 :
    nextIs (step (boot 0xC000 0x2005 0b0000 [] [] [])) (fun t =>
      t.pc == 0xC00C && t.ccr == CCR.ofBits 0b0000) = true := by decide +kernel

/-- BCC REL9=$1FE (-2) -/
theorem test_bcc_2 :
    nextIs (step (boot 0xC000 0x21FE 0b0000 [] [] [])) (fun t =>
      t.pc == 0xBFFE && t.ccr == CCR.ofBits 0b0000) = true := by decide +kernel

/-- BCS REL9=$005 (+5) -/
theorem test_bcs_1 :
    nextIs (step (boot 0xC000 0x2205 0b0001 [] [] [])) (fun t =>
      t.pc == 0xC00C && t.ccr == CCR.ofBits 0b0001) = true := by decide +kernel

/-- BCS REL9=$0FF (+255) -/
theorem test_bcs_2 :
    nextIs (step (boot 0xC000 0x22FF 0b0001 [] [] [])) (fun t =>
      t.pc == 0xC200 && t.ccr == CCR.ofBits 0b0001) = true := by decide +kernel

/-- BNE REL9=$005 (+5) -/
theorem test_bne_1 :
    nextIs (step (boot 0xC000 0x2405 0b0000 [] [] [])) (fun t =>
      t.pc == 0xC00C && t.ccr == CCR.ofBits 0b0000) = true := by decide +kernel

/-- BNE REL9=$000 (+0) -/
theorem test_bne_2 :
    nextIs (step (boot 0xC000 0x2400 0b0000 [] [] [])) (fun t =>
      t.pc == 0xC002 && t.ccr == CCR.ofBits 0b0000) = true := by decide +kernel

/-- BEQ REL9=$005 (+5) -/
theorem test_beq_1 :
    nextIs (step (boot 0xC000 0x2605 0b0100 [] [] [])) (fun t =>
      t.pc == 0xC00C && t.ccr == CCR.ofBits 0b0100) = true := by decide +kernel

/-- BEQ REL9=$1FF (-1) -/
theorem test_beq_2 :
    nextIs (step (boot 0xC000 0x27FF 0b0100 [] [] [])) (fun t =>
      t.pc == 0xC000 && t.ccr == CCR.ofBits 0b0100) = true := by decide +kernel

/-- BPL REL9=$005 (+5) -/
theorem test_bpl_1 :
    nextIs (step (boot 0xC000 0x2805 0b0111 [] [] [])) (fun t =>
      t.pc == 0xC00C && t.ccr == CCR.ofBits 0b0111) = true := by decide +kernel

/-- BPL REL9=$005 (+5) -/
theorem test_bpl_2 :
    nextIs (step (boot 0xC000 0x2805 0b1000 [] [] [])) (fun t =>
      t.pc == 0xC002 && t.ccr == CCR.ofBits 0b1000) = true := by decide +kernel

/-- BMI REL9=$005 (+5) -/
theorem test_bmi_1 :
    nextIs (step (boot 0xC000 0x2A05 0b1000 [] [] [])) (fun t =>
      t.pc == 0xC00C && t.ccr == CCR.ofBits 0b1000) = true := by decide +kernel

/-- BMI REL9=$005 (+5) -/
theorem test_bmi_2 :
    nextIs (step (boot 0xC000 0x2A05 0b0111 [] [] [])) (fun t =>
      t.pc == 0xC002 && t.ccr == CCR.ofBits 0b0111) = true := by decide +kernel

/-- BVC REL9=$005 (+5) -/
theorem test_bvc_1 :
    nextIs (step (boot 0xC000 0x2C05 0b1101 [] [] [])) (fun t =>
      t.pc == 0xC00C && t.ccr == CCR.ofBits 0b1101) = true := by decide +kernel

/-- BVC REL9=$005 (+5) -/
theorem test_bvc_2 :
    nextIs (step (boot 0xC000 0x2C05 0b0010 [] [] [])) (fun t =>
      t.pc == 0xC002 && t.ccr == CCR.ofBits 0b0010) = true := by decide +kernel

/-- BVS REL9=$005 (+5) -/
theorem test_bvs_1 :
    nextIs (step (boot 0xC000 0x2E05 0b0010 [] [] [])) (fun t =>
      t.pc == 0xC00C && t.ccr == CCR.ofBits 0b0010) = true := by decide +kernel

/-- BVS REL9=$005 (+5) -/
theorem test_bvs_2 :
    nextIs (step (boot 0xC000 0x2E05 0b1101 [] [] [])) (fun t =>
      t.pc == 0xC002 && t.ccr == CCR.ofBits 0b1101) = true := by decide +kernel

/-- BHI REL9=$005 (+5) -/
theorem test_bhi_1 :
    nextIs (step (boot 0xC000 0x3005 0b0000 [] [] [])) (fun t =>
      t.pc == 0xC00C && t.ccr == CCR.ofBits 0b0000) = true := by decide +kernel

/-- BHI REL9=$005 (+5) -/
theorem test_bhi_2 :
    nextIs (step (boot 0xC000 0x3005 0b0001 [] [] [])) (fun t =>
      t.pc == 0xC002 && t.ccr == CCR.ofBits 0b0001) = true := by decide +kernel

/-- BLS REL9=$005 (+5) -/
theorem test_bls_1 :
    nextIs (step (boot 0xC000 0x3205 0b0100 [] [] [])) (fun t =>
      t.pc == 0xC00C && t.ccr == CCR.ofBits 0b0100) = true := by decide +kernel

/-- BLS REL9=$005 (+5) -/
theorem test_bls_2 :
    nextIs (step (boot 0xC000 0x3205 0b1010 [] [] [])) (fun t =>
      t.pc == 0xC002 && t.ccr == CCR.ofBits 0b1010) = true := by decide +kernel

/-- BGE REL9=$005 (+5) -/
theorem test_bge_1 :
    nextIs (step (boot 0xC000 0x3405 0b1010 [] [] [])) (fun t =>
      t.pc == 0xC00C && t.ccr == CCR.ofBits 0b1010) = true := by decide +kernel

/-- BGE REL9=$005 (+5) -/
theorem test_bge_2 :
    nextIs (step (boot 0xC000 0x3405 0b0010 [] [] [])) (fun t =>
      t.pc == 0xC002 && t.ccr == CCR.ofBits 0b0010) = true := by decide +kernel

/-- BLT REL9=$005 (+5) -/
theorem test_blt_1 :
    nextIs (step (boot 0xC000 0x3605 0b1000 [] [] [])) (fun t =>
      t.pc == 0xC00C && t.ccr == CCR.ofBits 0b1000) = true := by decide +kernel

/-- BLT REL9=$005 (+5) -/
theorem test_blt_2 :
    nextIs (step (boot 0xC000 0x3605 0b0000 [] [] [])) (fun t =>
      t.pc == 0xC002 && t.ccr == CCR.ofBits 0b0000) = true := by decide +kernel

/-- BGT REL9=$005 (+5) -/
theorem test_bgt_1 :
    nextIs (step (boot 0xC000 0x3805 0b1010 [] [] [])) (fun t =>
      t.pc == 0xC00C && t.ccr == CCR.ofBits 0b1010) = true := by decide +kernel

/-- BGT REL9=$005 (+5) -/
theorem test_bgt_2 :
    nextIs (step (boot 0xC000 0x3805 0b1000 [] [] [])) (fun t =>
      t.pc == 0xC002 && t.ccr == CCR.ofBits 0b1000) = true := by decide +kernel

/-- BLE REL9=$005 (+5) -/
theorem test_ble_1 :
    nextIs (step (boot 0xC000 0x3A05 0b0100 [] [] [])) (fun t =>
      t.pc == 0xC00C && t.ccr == CCR.ofBits 0b0100) = true := by decide +kernel

/-- BLE REL9=$005 (+5) -/
theorem test_ble_2 :
    nextIs (step (boot 0xC000 0x3A05 0b1010 [] [] [])) (fun t =>
      t.pc == 0xC002 && t.ccr == CCR.ofBits 0b1010) = true := by decide +kernel

/-- BRA REL10=$1FF (+511) -/
theorem test_bra_1 :
    nextIs (step (boot 0xC000 0x3DFF 0b1111 [] [] [])) (fun t =>
      t.pc == 0xC400 && t.ccr == CCR.ofBits 0b1111) = true := by decide +kernel

/-- BRA REL10=$001 (+1) -/
theorem test_bra_2 :
    nextIs (step (boot 0xFFFC 0x3C01 0b0000 [] [] [])) (fun t =>
      t.pc == 0x0000 && t.ccr == CCR.ofBits 0b0000) = true := by decide +kernel

/-- JAL R5 -/
theorem test_jal_1 :
    nextIs (step (boot 0xC000 0x05F6 0b1010 [(.r5, 0xD000)] [] [])) (fun t =>
      t.reg .r5 == 0xC002 && t.pc == 0xD000 && t.ccr == CCR.ofBits 0b1010) = true := by decide +kernel

/-- JAL R0 -/
theorem test_jal_2 :
    nextIs (step (boot 0xC000 0x00F6 0b0000 [] [] [])) (fun t =>
      t.pc == 0x0000 && t.ccr == CCR.ofBits 0b0000) = true := by decide +kernel

/-- ASR R4,#3 -/
theorem test_asrImm_1 :
    nextIs (step (boot 0xC000 0x0C39 0b0000 [(.r4, 0x8004)] [] [])) (fun t =>
      t.reg .r4 == 0xF000 && t.pc == 0xC002 && t.ccr == CCR.ofBits 0b1001) = true := by decide +kernel

/-- ASR R4,#0 -/
theorem test_asrImm_2 :
    nextIs (step (boot 0xC000 0x0C09 0b0000 [(.r4, 0x8000)] [] [])) (fun t =>
      t.reg .r4 == 0xFFFF && t.pc == 0xC002 && t.ccr == CCR.ofBits 0b1001) = true := by decide +kernel

/-- ASR R4,R2 -/
theorem test_asrReg_1 :
    nextIs (step (boot 0xC000 0x0C51 0b0011 [(.r2, 0x0000), (.r4, 0x8000)] [] [])) (fun t =>
      t.reg .r4 == 0x8000 && t.pc == 0xC002 && t.ccr == CCR.ofBits 0b1001) = true := by decide +kernel

/-- ASR R4,R2 -/
theorem test_asrReg_2 :
    nextIs (step (boot 0xC000 0x0C51 0b0000 [(.r2, 0x1234), (.r4, 0x4000)] [] [])) (fun t =>
      t.reg .r4 == 0x0000 && t.pc == 0xC002 && t.ccr == CCR.ofBits 0b0100) = true := by decide +kernel

/-- CSL R4,#1 -/
theorem test_cslImm_1 :
    nextIs (step (boot 0xC000 0x0C1A 0b0001 [(.r4, 0x8001)] [] [])) (fun t =>
      t.reg .r4 == 0x0003 && t.pc == 0xC002 && t.ccr == CCR.ofBits 0b0011) = true := by decide +kernel

/-- CSL R4,#0 -/
theorem test_cslImm_2 :
    nextIs (step (boot 0xC000 0x0C0A 0b0001 [(.r4, 0x0001)] [] [])) (fun t =>
      t.reg .r4 == 0xFFFF && t.pc == 0xC002 && t.ccr == CCR.ofBits 0b1011) = true := by decide +kernel

/-- CSL R4,R2 -/
theorem test_cslReg_1 :
    nextIs (step (boot 0xC000 0x0C52 0b0000 [(.r2, 0x0001), (.r4, 0x4000)] [] [])) (fun t =>
      t.reg .r4 == 0x8000 && t.pc == 0xC002 && t.ccr == CCR.ofBits 0b1010) = true := by decide +kernel

/-- CSL R4,R2 -/
theorem test_cslReg_2 :
    nextIs (step (boot 0xC000 0x0C52 0b0101 [(.r2, 0x0000), (.r4, 0x1234)] [] [])) (fun t =>
      t.reg .r4 == 0x1234 && t.pc == 0xC002 && t.ccr == CCR.ofBits 0b0001) = true := by decide +kernel

/-- CSR R4,#1 -/
theorem test_csrImm_1 :
    nextIs (step (boot 0xC000 0x0C1B 0b0001 [(.r4, 0x0001)] [] [])) (fun t =>
      t.reg .r4 == 0x8000 && t.pc == 0xC002 && t.ccr == CCR.ofBits 0b1011) = true := by decide +kernel

/-- CSR R4,#0 -/
theorem test_csrImm_2 :
    nextIs (step (boot 0xC000 0x0C0B 0b0001 [(.r4, 0x8000)] [] [])) (fun t =>
      t.reg .r4 == 0xFFFF && t.pc == 0xC002 && t.ccr == CCR.ofBits 0b1001) = true := by decide +kernel

/-- CSR R4,R2 -/
theorem test_csrReg :
    nextIs (step (boot 0xC000 0x0C53 0b0001 [(.r2, 0x0004), (.r4, 0x00F0)] [] [])) (fun t =>
      t.reg .r4 == 0xF00F && t.pc == 0xC002 && t.ccr == CCR.ofBits 0b1010) = true := by decide +kernel

/-- LSL R4,#1 -/
theorem test_lslImm_1 :
    nextIs (step (boot 0xC000 0x0C1C 0b0000 [(.r4, 0x8001)] [] [])) (fun t =>
      t.reg .r4 == 0x0002 && t.pc == 0xC002 && t.ccr == CCR.ofBits 0b0011) = true := by decide +kernel

/-- LSL R4,#15 -/
theorem test_lslImm_2 :
    nextIs (step (boot 0xC000 0x0CFC 0b0000 [(.r4, 0x0001)] [] [])) (fun t =>
      t.reg .r4 == 0x8000 && t.pc == 0xC002 && t.ccr == CCR.ofBits 0b1010) = true := by decide +kernel

/-- LSL R4,R5 -/
theorem test_lslReg_1 :
    nextIs (step (boot 0xC000 0x0CB4 0b0000 [(.r4, 0x0001), (.r5, 0x0004)] [] [])) (fun t =>
      t.reg .r4 == 0x0010 && t.pc == 0xC002 && t.ccr == CCR.ofBits 0b0000) = true := by decide +kernel

/-- LSL R4,R4 -/
theorem test_lslReg_2 :
    nextIs (step (boot 0xC000 0x0C94 0b0000 [(.r4, 0x0003)] [] [])) (fun t =>
      t.reg .r4 == 0x0018 && t.pc == 0xC002 && t.ccr == CCR.ofBits 0b0000) = true := by decide +kernel

/-- LSR R4,#3 -/
theorem test_lsrImm_1 :
    nextIs (step (boot 0xC000 0x0C3D 0b0000 [(.r4, 0x8004)] [] [])) (fun t =>
      t.reg .r4 == 0x1000 && t.pc == 0xC002 && t.ccr == CCR.ofBits 0b0011) = true := by decide +kernel

/-- LSR R4,#1 -/
theorem test_lsrImm_2 :
    nextIs (step (boot 0xC000 0x0C1D 0b0000 [(.r4, 0xFFFF)] [] [])) (fun t =>
      t.reg .r4 == 0x7FFF && t.pc == 0xC002 && t.ccr == CCR.ofBits 0b0011) = true := by decide +kernel

/-- LSR R4,R5 -/
theorem test_lsrReg_1 :
    nextIs (step (boot 0xC000 0x0CB5 0b0000 [(.r4, 0x8000), (.r5, 0x000F)] [] [])) (fun t =>
      t.reg .r4 == 0x0001 && t.pc == 0xC002 && t.ccr == CCR.ofBits 0b0010) = true := by decide +kernel

/-- LSR R4,R5 -/
theorem test_lsrReg_2 :
    nextIs (step (boot 0xC000 0x0CB5 0b0001 [(.r4, 0x8000), (.r5, 0x0000)] [] [])) (fun t =>
      t.reg .r4 == 0x8000 && t.pc == 0xC002 && t.ccr == CCR.ofBits 0b1001) = true := by decide +kernel

/-- ROL R4,#1 -/
theorem test_rolImm_1 :
    nextIs (step (boot 0xC000 0x0C1E 0b0011 [(.r4, 0x8001)] [] [])) (fun t =>
      t.reg .r4 == 0x0003 && t.pc == 0xC002 && t.ccr == CCR.ofBits 0b0001) = true := by decide +kernel

/-- ROL R4,#0 -/
theorem test_rolImm_2 :
    nextIs (step (boot 0xC000 0x0C0E 0b0011 [(.r4, 0x8000)] [] [])) (fun t =>
      t.reg .r4 == 0x8000 && t.pc == 0xC002 && t.ccr == CCR.ofBits 0b1001) = true := by decide +kernel

/-- ROL R4,R5 -/
theorem test_rolReg_1 :
    nextIs (step (boot 0xC000 0x0CB6 0b0000 [(.r4, 0x1234), (.r5, 0xFFF8)] [] [])) (fun t =>
      t.reg .r4 == 0x3412 && t.pc == 0xC002 && t.ccr == CCR.ofBits 0b0000) = true := by decide +kernel

/-- ROL R4,R5 -/
theorem test_rolReg_2 :
    nextIs (step (boot 0xC000 0x0CB6 0b0000 [(.r4, 0x1234), (.r5, 0x0010)] [] [])) (fun t =>
      t.reg .r4 == 0x1234 && t.pc == 0xC002 && t.ccr == CCR.ofBits 0b0000) = true := by decide +kernel

/-- ROR R4,#1 -/
theorem test_rorImm_1 :
    nextIs (step (boot 0xC000 0x0C1F 0b0001 [(.r4, 0x0001)] [] [])) (fun t =>
      t.reg .r4 == 0x8000 && t.pc == 0xC002 && t.ccr == CCR.ofBits 0b1001) = true := by decide +kernel

/-- ROR R4,#7 -/
theorem test_rorImm_2 :
    nextIs (step (boot 0xC000 0x0C7F 0b1011 [(.r4, 0x0000)] [] [])) (fun t =>
      t.reg .r4 == 0x0000 && t.pc == 0xC002 && t.ccr == CCR.ofBits 0b0101) = true := by decide +kernel

/-- ROR R4,R5 -/
theorem test_rorReg :
    nextIs (step (boot 0xC000 0x0CB7 0b0000 [(.r4, 0x1234), (.r5, 0x000C)] [] [])) (fun t =>
      t.reg .r4 == 0x2341 && t.pc == 0xC002 && t.ccr == CCR.ofBits 0b0000) = true := by decide +kernel

/-- BFFO R4,R5 -/
theorem test_bffo_1 :
    nextIs (step (boot 0xC000 0x0CB0 0b1010 [(.r5, 0x0100)] [] [])) (fun t =>
      t.reg .r4 == 0x0008 && t.pc == 0xC002 && t.ccr == CCR.ofBits 0b0000) = true := by decide +kernel

/-- BFFO R4,R5 -/
theorem test_bffo_2 :
    nextIs (step (boot 0xC000 0x0CB0 0b0000 [(.r4, 0x1234), (.r5, 0x0000)] [] [])) (fun t =>
      t.reg .r4 == 0x0000 && t.pc == 0xC002 && t.ccr == CCR.ofBits 0b0101) = true := by decide +kernel

/-- BFEXT R3,R4,R5 -/
theorem test_bfext_1 :
    nextIs (step (boot 0xC000 0x6397 0b0011 [(.r4, 0xABCD), (.r5, 0x0032)] [] [])) (fun t =>
      t.reg .r3 == 0x0003 && t.pc == 0xC002 && t.ccr == CCR.ofBits 0b0001) = true := by decide +kernel

/-- BFEXT R3,R4,R5 -/
theorem test_bfext_2 :
    nextIs (step (boot 0xC000 0x6397 0b0001 [(.r4, 0x00F0), (.r5, 0x0030)] [] [])) (fun t =>
      t.reg .r3 == 0x0000 && t.pc == 0xC002 && t.ccr == CCR.ofBits 0b0101) = true := by decide +kernel

/-- BFINS R3,R4,R5 -/
theorem test_bfins_1 :
    nextIs (step (boot 0xC000 0x6B97 0b0011 [(.r3, 0xFFFF), (.r4, 0x0005), (.r5, 0x0034)] [] [])) (fun t =>
      t.reg .r3 == 0xFF5F && t.pc == 0xC002 && t.ccr == CCR.ofBits 0b1001) = true := by decide +kernel

/-- BFINS R3,R0,R5 -/
theorem test_bfins_2 :
    nextIs (step (boot 0xC000 0x6B17 0b0000 [(.r3, 0x00F0), (.r5, 0x0034)] [] [])) (fun t =>
      t.reg .r3 == 0x0000 && t.pc == 0xC002 && t.ccr == CCR.ofBits 0b0100) = true := by decide +kernel

/-- BFINSI R3,R4,R5 -/
theorem test_bfinsi_1 :
    nextIs (step (boot 0xC000 0x7397 0b0011 [(.r3, 0xFFFF), (.r4, 0x0005), (.r5, 0x0034)] [] [])) (fun t =>
      t.reg .r3 == 0xFFAF && t.pc == 0xC002 && t.ccr == CCR.ofBits 0b1001) = true := by decide +kernel

/-- BFINSI R3,R0,R5 -/
theorem test_bfinsi_2 :
    nextIs (step (boot 0xC000 0x7317 0b0010 [(.r3, 0x0000), (.r5, 0x000F)] [] [])) (fun t =>
      t.reg .r3 == 0x8000 && t.pc == 0xC002 && t.ccr == CCR.ofBits 0b1000) = true := by decide +kernel

/-- BFINSX R3,R4,R5 -/
theorem test_bfinsx_1 :
    nextIs (step (boot 0xC000 0x7B97 0b0011 [(.r3, 0x0AC0), (.r4, 0x0005), (.r5, 0x0034)] [] [])) (fun t =>
      t.reg .r3 == 0x0A60 && t.pc == 0xC002 && t.ccr == CCR.ofBits 0b0001) = true := by decide +kernel

/-- BFINSX R3,R0,R5 -/
theorem test_bfinsx_2 :
    nextIs (step (boot 0xC000 0x7B17 0b0000 [(.r3, 0x7FFF), (.r5, 0x000F)] [] [])) (fun t =>
      t.reg .r3 == 0xFFFF && t.pc == 0xC002 && t.ccr == CCR.ofBits 0b1000) = true := by decide +kernel

/-- SIF -/
theorem test_sif :
    nextIs (step (boot 0xC000 0x0300 0b0000 [] [] [])) (fun t =>
      t.xgif == bit128 0x20 && t.pc == 0xC002 && t.ccr == CCR.ofBits 0b0000) = true := by decide +kernel

/-- SIF R2 -/
theorem test_sifReg_1 :
    nextIs (step (boot 0xC000 0x02F7 0b0000 [(.r2, 0x1234)] [] [])) (fun t =>
      t.xgif == bit128 0x34 && t.pc == 0xC002 && t.ccr == CCR.ofBits 0b0000) = true := by decide +kernel

/-- SIF R0 -/
theorem test_sifReg_2 :
    nextIs (step (boot 0xC000 0x00F7 0b0000 [] [] [])) (fun t =>
      t.pc == 0xC002 && t.ccr == CCR.ofBits 0b0000) = true := by decide +kernel

/-- SSEM #3 -/
theorem test_ssemImm_1 :
    nextIs (step (boot 0xC000 0x03F2 0b0000 [] [] [])) (fun t =>
      t.sem.get 3 == .lockedXG && t.pc == 0xC002 && t.ccr == CCR.ofBits 0b0001) = true := by decide +kernel

/-- SSEM #3 -/
theorem test_ssemImm_2 :
    nextIs (step (boot 0xC000 0x03F2 0b0001 [] [] [(3, .lockedCPU)])) (fun t =>
      t.sem.get 3 == .lockedCPU && t.pc == 0xC002 && t.ccr == CCR.ofBits 0b0000) = true := by decide +kernel

/-- SSEM R2 -/
theorem test_ssemReg :
    nextIs (step (boot 0xC000 0x02F3 0b1110 [(.r2, 0xFFFD)] [] [])) (fun t =>
      t.sem.get 5 == .lockedXG && t.pc == 0xC002 && t.ccr == CCR.ofBits 0b1111) = true := by decide +kernel

/-- CSEM #1 -/
theorem test_csemImm_1 :
    nextIs (step (boot 0xC000 0x01F0 0b1111 [] [] [(1, .lockedXG)])) (fun t =>
      t.sem.get 1 == .unlocked && t.pc == 0xC002 && t.ccr == CCR.ofBits 0b1111) = true := by decide +kernel

/-- CSEM #1 -/
theorem test_csemImm_2 :
    nextIs (step (boot 0xC000 0x01F0 0b0000 [] [] [(1, .lockedCPU)])) (fun t =>
      t.sem.get 1 == .lockedCPU && t.pc == 0xC002 && t.ccr == CCR.ofBits 0b0000) = true := by decide +kernel

/-- CSEM R2 -/
theorem test_csemReg :
    nextIs (step (boot 0xC000 0x02F1 0b0000 [(.r2, 0x000F)] [] [(7, .lockedXG)])) (fun t =>
      t.sem.get 7 == .unlocked && t.pc == 0xC002 && t.ccr == CCR.ofBits 0b0000) = true := by decide +kernel

/-- NOP -/
theorem test_nop :
    nextIs (step (boot 0xC000 0x0100 0b1010 [] [] [])) (fun t =>
      t.pc == 0xC002 && t.ccr == CCR.ofBits 0b1010) = true := by decide +kernel

/-- BRK -/
theorem test_brk :
    nextIs (step (boot 0xC000 0x0000 0b1010 [] [] [])) (fun t =>
      t.xgdbg && t.pc == 0xC000 && t.breakReqs == 1 && t.ccr == CCR.ofBits 0b1010) = true := by decide +kernel

/-- RTS -/
theorem test_rts :
    nextIs (step (boot 0xC000 0x0200 0b1010 [] [] [])) (fun t =>
      t.xgchid == 0 && t.ccr == CCR.ofBits 0b1010) = true := by decide +kernel

/-- word $0001 -/
theorem test_illegal_1 :
    nextIs (step (boot 0xC000 0x0001 0b0000 [] [] [])) (fun t =>
      t.xgsweif && t.xgchid == 0x20) = true := by decide +kernel

/-- word $17FD -/
theorem test_illegal_2 :
    nextIs (step (boot 0xC000 0x17FD 0b0000 [] [] [])) (fun t =>
      t.xgsweif && t.xgchid == 0x20) = true := by decide +kernel

/-! ## Witnesses: states that meet the hypotheses of the statements -/

/-- The chip's RAM is $B000 to $FFFF here; the range $D000 to $D00F is protected on this one. -/
def guarded : State := { State.reset with chip := { Config.defaultChip with protectedRam := [(0xD000, 0xD00F)] } }

/-- A thread of channel $20 with the word `w` at $C000, R1 = `a` and R2 = `b`. -/
def thread (w a b : Word) : State := boot 0xC000 w 0 [(.r1, a), (.r2, b)] [] []

/-- ramReady from its three parts, for all forms of a list at once. -/
theorem ready_all {s : State} {l : List MemoryForm}
    (h : ∀ e ∈ l, (e.width = .word → e.address.toNat % 2 = 0) ∧ 0x10000 - min s.chip.ramSize 0xF800 ≤ e.address.toNat)
    (hp : s.chip.protectedRam = []) : ∀ e ∈ l, ramReady s e.width e.address :=
  fun e he => ⟨(h e he).1, (h e he).2, fun _ _ _ hm => absurd (hp ▸ hm) List.not_mem_nil⟩

/-- deviceReady from its three parts, for all forms of a list at once. -/
theorem device_all {s : State} {l : List MemoryForm}
    (h : ∀ e ∈ l, (e.width = .word → e.address.toNat % 2 = 0) ∧ e.address.toNat ≤ 0x07FF ∧
      (e.address.toNat < s.chip.xgateBase.toNat ∨ s.chip.xgateBase.toNat + 0x39 < e.address.toNat)) :
    ∀ e ∈ l, deviceReady s e.width e.address :=
  fun e he => ⟨(h e he).1, (h e he).2.1, (h e he).2.2⟩

/-- ramReady on the chip of State.reset, which protects nothing. -/
theorem ready_word {s : State} {a : Word} (hp : s.chip = Config.defaultChip) (h : a.toNat % 2 = 0) (h' : 0xB000 ≤ a.toNat) :
    ramReady s .word a := by
  refine ⟨fun _ => h, ?_, ?_⟩ <;> simp [hp, Config.defaultChip]
  omega

theorem witness_DecodedWordEncodesBack : decodeWord 0x0100 = .ok .nop := by decide +kernel

theorem witness_IllegalWords : let s := thread 0x07FF 0 0
    ramReady s .word s.pc ∧ s.pc ≠ 0xFFFE ∧ illegalNumber (ramNumber s .word s.pc) = true :=
  ⟨ready_word rfl (by decide +kernel) (by decide +kernel), by decide +kernel, by decide +kernel⟩

theorem witness_StepRuns (w : Word) (hw : w = 0x0100 ∨ w = 0x6226) : (thread w 0 0).aboutToExecute ∧ (thread w 0 0).pc ≠ 0xFFFE := by
  rcases hw with rfl | rfl <;>
    exact ⟨⟨by decide +kernel, by decide +kernel, by decide +kernel,
      ready_word rfl (by decide +kernel) (by decide +kernel)⟩, by decide +kernel⟩

/-- The instruction at pc goes on, with and without a waiting request; is refused; an event moves first. -/
theorem witness_StepRuns_outcomes :
    decodeWord (joinBytes ((thread 0x0100 0 0).ramByte 0xC000) ((thread 0x0100 0 0).ramByte 0xC001)) = .ok .nop ∧
    nextIs (exec .nop { thread 0x0100 0 0 with dbgReq := true }) (fun t => t.dbgReq) = true ∧
    nextIs (exec .nop (thread 0x0100 0 0)) (fun t => !t.dbgReq) = true ∧
    decodeWord (joinBytes ((thread 0x6246 0 0).ramByte 0xC000) ((thread 0x6246 0 0).ramByte 0xC001))
      = .ok (.ldbDec .r2 .r2 .r1) ∧
    { State.reset with env := [.tag] }.env = Event.tag :: [] := by decide +kernel

/-- Halted, stopped, frozen; idle without and with a request; running with and without a tag. -/
theorem witness_RunState :
    runState { State.reset with xgdbg := true } = .halted ∧ runState { State.reset with xgsweif := true } = .stopped ∧
    runState { State.reset with freezeInput := true, xgfrz := true } = .frozen ∧
    runState State.reset = .idle ∧ State.reset.xge = false ∧
    runState { State.reset with xge := true, reqLines := bit128 0x78 } = .idle ∧
    pendingRequests { State.reset with xge := true, reqLines := bit128 0x78 } ≠ 0 ∧
    runState { thread 0x0100 0 0 with tagged := true } = .running ∧
    nextIs (executeOne (thread 0x0100 0 0)) (fun _ => true) = true := by decide +kernel

theorem witness_Reset : { State.reset with env := [.reset] }.env = .reset :: [] := rfl

/-- A state of a running thread that meets the invariant, and a step from it. -/
theorem witness_Invariant : (thread 0x0100 0 0).Inv ∧ nextIs (step (thread 0x0100 0 0)) (fun _ => true) = true := by
  refine ⟨⟨?_, ?_, ?_, ?_, ?_⟩, ?_⟩
  · exact setRamWord_wf _ _ reset_wf
  all_goals decide +kernel

theorem witness_OrderOf : OrderOf (3 : Word) 5 (subFlags (3 : Word) 5 (3 - 5)) ∧ OrderOf (5 : Byte) 5 (subFlags (5 : Byte) 5 0) ∧
    OrderOf (0x8000 : Word) 0x7FFF (subFlags (0x8000 : Word) 0x7FFF 1) :=
  ⟨⟨by decide, by decide, by decide⟩, ⟨by decide, by decide, by decide⟩, ⟨by decide, by decide, by decide⟩⟩

theorem witness_Bffo : State.reset.reg .r1 = 0 ∧ (thread 0 0x8000 0).reg .r1 ≠ 0 := by decide +kernel

theorem witness_ShiftsChain : Reg.r1 ≠ .r0 ∧ Reg.r2 ≠ .r0 ∧ Reg.r1 ≠ .r2 := by decide

theorem witness_FlagsSaved : Reg.r7 ≠ .r0 ∧
    { State.reset with xgdbg := true }.xgdbg = true ∧ State.reset.chip.secured = false := by decide

theorem witness_Branches : branchTable.length = 14 ∧ branchTable.map (fun e => e.1) = List.range 14 := by decide +kernel

/-- All eight loads and all eight stores at the first word of RAM, and at the last. -/
theorem witness_Ram :
    (∀ e ∈ loadForms (thread 0 0xB000 2) .r3 .r1 .r2 0, ramReady (thread 0 0xB000 2) e.width e.address) ∧
    (∀ e ∈ loadForms (thread 0 0xFFFC 2) .r3 .r1 .r2 2, ramReady (thread 0 0xFFFC 2) e.width e.address) ∧
    (∀ e ∈ storeForms (thread 0 0xB000 2) .r3 .r1 .r2 0, ramReady (thread 0 0xB000 2) e.width e.address) ∧
    (∀ e ∈ storeForms (thread 0 0xFFFC 2) .r3 .r1 .r2 2, ramReady (thread 0 0xFFFC 2) e.width e.address) ∧
    (loadForms (thread 0 0xB000 2) .r3 .r1 .r2 0).length = 8 ∧ (storeForms (thread 0 0xB000 2) .r3 .r1 .r2 0).length = 8 :=
  ⟨ready_all (by decide +kernel) rfl, ready_all (by decide +kernel) rfl, ready_all (by decide +kernel) rfl,
    ready_all (by decide +kernel) rfl, by decide +kernel, by decide +kernel⟩

theorem clear_all {s : State} {l : List MemoryForm}
    (h : l.all (fun e => (touched e.width e.address).all (fun b => b != s.pc + 2 && b != s.pc + 3)) = true) :
    ∀ e ∈ l, clearOfPrefetch s e.width e.address := by
  simp only [List.all_eq_true, Bool.and_eq_true, bne_iff_ne] at h
  exact fun e he _ => h e he

theorem witness_ClearOfPrefetch :
    (∀ e ∈ storeForms (thread 0 0xB000 2) .r3 .r1 .r2 0, clearOfPrefetch (thread 0 0xB000 2) e.width e.address) ∧
    (∀ e ∈ storeForms (thread 0 0xC004 2) .r3 .r1 .r2 0, clearOfPrefetch (thread 0 0xC004 2) e.width e.address) :=
  ⟨clear_all (by decide +kernel), clear_all (by decide +kernel)⟩

/-- The sixteen forms at the first register of the Register Space, beside the module's own block, and at the last. -/
theorem witness_Devices (l : State → Reg → Reg → Reg → BitVec 5 → List MemoryForm) (hl : l = loadForms ∨ l = storeForms) :
    (∀ e ∈ l (thread 0 0x0000 2) .r3 .r1 .r2 0, deviceReady (thread 0 0x0000 2) e.width e.address) ∧
    (∀ e ∈ l (thread 0 0x03B8 4) .r3 .r1 .r2 2, deviceReady (thread 0 0x03B8 4) e.width e.address) ∧
    (∀ e ∈ l (thread 0 0x07FC 2) .r3 .r1 .r2 2, deviceReady (thread 0 0x07FC 2) e.width e.address) := by
  rcases hl with rfl | rfl <;>
    exact ⟨device_all (by decide +kernel), device_all (by decide +kernel), device_all (by decide +kernel)⟩

/-- The first and the last address of the Unmapped Address Space in the offset and index forms; odd word addresses. -/
theorem witness_Bad :
    (∀ e ∈ loadForms (thread 0 0x0800 0) .r3 .r1 .r0 0 ++ storeForms (thread 0 0x0800 0) .r3 .r1 .r0 0,
      accessErrs (thread 0 0x0800 0) e.width e.address) ∧
    (∀ e ∈ loadForms (thread 0 0xAFFE 0) .r3 .r1 .r0 0 ++ storeForms (thread 0 0xAFFE 0) .r3 .r1 .r0 0,
      accessErrs (thread 0 0xAFFE 0) e.width e.address) ∧
    accessErrs (thread 0 0xAFFF 0) .byte 0xAFFF ∧
    (∀ e ∈ loadForms (thread 0 0xC001 2) .r3 .r1 .r2 2 ++ storeForms (thread 0 0xC001 2) .r3 .r1 .r2 2,
      e.width = .word → accessErrs (thread 0 0xC001 2) e.width e.address) := by
  simp only [accessErrs]
  exact ⟨by decide +kernel, by decide +kernel, by decide +kernel, by decide +kernel⟩

/-- An access of each form to the first or last protected bytes, and one whose last byte is the first protected one. -/
theorem witness_Refused_protected :
    (loadForms (guarded.setReg .r1 0xD000) .r3 .r1 .r0 0 ++ storeForms (guarded.setReg .r1 0xD00E) .r3 .r1 .r0 0).all (fun e =>
      decide (e.width = .word → e.address.toNat % 2 = 0) &&
      decide (0x10000 - min guarded.chip.ramSize 0xF800 ≤ e.address.toNat) &&
      (touched e.width e.address).any (fun b =>
        guarded.chip.protectedRam.any (fun p => decide (p.1.toNat ≤ b.toNat) && decide (b.toNat ≤ p.2.toNat)))) = true := by
  decide +kernel

/-- The first and the last register of the module's block, and those beside XGSWT. -/
theorem witness_Refused_own : Reg.r2 ≠ .r0 ∧
    [(0x0380 : Word), 0x0396, 0x039A, 0x03B8].all (fun a =>
      (loadForms (thread 0 a 0) .r3 .r1 .r0 0 ++ storeForms (thread 0 a 0) .r3 .r1 .r0 0).all (fun e => decide
        ((e.width = .word → e.address.toNat % 2 = 0) ∧ e.address.toNat ≤ 0x07FF ∧ 0x0380 ≤ e.address.toNat ∧
          e.address.toNat ≤ 0x0380 + 0x39 ∧ e.address.toNat ≠ 0x0380 + 0x18 ∧ e.address.toNat ≠ 0x0380 + 0x19))) = true := by
  decide +kernel

/-- Every store form to the word after the instruction. -/
theorem witness_Refused_prefetched : (thread 0 0xC002 0).xgdbg = false ∧ (thread 0 0xC002 0).pc = 0xC000 ∧
    (storeForms (thread 0 0xC002 0) .r3 .r1 .r0 0).all (fun e =>
      (touched e.width e.address).any (fun b => b == 0xC000 + 2 || b == 0xC000 + 3)) = true := by
  decide +kernel

theorem witness_Refused_ready :
    ∀ e ∈ storeForms (thread 0 0xC002 0) .r3 .r1 .r0 0, ramReady (thread 0 0xC002 0) e.width e.address :=
  ready_all (by decide +kernel) rfl

/-- All sixteen forms at XGSWT, and the byte forms at its lower byte. -/
theorem witness_Triggers : State.reset.chip.xgateBase.toNat % 2 = 0 ∧ State.reset.chip.xgateBase.toNat + 0x39 ≤ 0x07FF ∧
    (loadForms (thread 0 0x0398 0) .r3 .r1 .r0 0 ++ storeForms (thread 0 0x0398 0) .r3 .r1 .r0 0).all
      (fun e => e.address == State.reset.chip.xgateBase + 0x18) = true ∧
    (loadForms (thread 0 0x0399 0) .r3 .r1 .r0 0 ++ storeForms (thread 0 0x0399 0) .r3 .r1 .r0 0).all
      (fun e => e.address == State.reset.chip.xgateBase + 0x19) = true := by decide +kernel

/-- At the first and at the last word of RAM. -/
theorem witness_WordsAndBytes (a : Word) (ha : a = 0xB000 ∨ a = 0xFFFE) : Reg.r3 ≠ .r0 ∧
    ramReady (thread 0 a 0) .word ((thread 0 a 0).reg .r1) ∧
    ∀ k, k < 8 → (thread 0 a 0).reg .r1 ≠ (thread 0 a 0).pc + BitVec.ofNat 16 k ∧
      (thread 0 a 0).reg .r1 + 1 ≠ (thread 0 a 0).pc + BitVec.ofNat 16 k := by
  rcases ha with rfl | rfl <;>
    exact ⟨by decide, ready_word rfl (by decide +kernel) (by decide +kernel), by decide +kernel⟩

/-- A semaphore in each of the three states. -/
theorem witness_Semaphores :
    (boot 0xC000 0 0 [] [] [(7, .lockedXG), (0, .lockedCPU)]).sem.get 7 = .lockedXG ∧
    (boot 0xC000 0 0 [] [] [(7, .lockedXG), (0, .lockedCPU)]).sem.get 0 = .lockedCPU ∧
    State.reset.sem.get 3 = .unlocked ∧
    (0x8180 : Word).getLsbD (8 + 7) = true ∧ (0x8180 : Word).getLsbD 7 = true ∧ (0x8180 : Word).getLsbD (8 + 0) = true ∧
    (0x8180 : Word).getLsbD 0 = false ∧ (0x8180 : Word).getLsbD (8 + 1) = false := by decide +kernel

/-- The vectors of channels 0 and $78 at the reset value of XGVBR, and one that ends at $FFFF. -/
theorem witness_ThreadStart (n : BitVec 7) (v : Nat) (h : (n = 0 ∧ v = 0xFE00) ∨ (n = 0x78 ∧ v = 0xFFE0) ∨ (n = 0x7F ∧ v = 0xFFFC)) :
    v = State.reset.xgvbr.toNat % 0x10000 / 2 * 2 + 4 * n.toNat ∧ v + 3 < 0x10000 ∧
    ramReady State.reset .word (BitVec.ofNat 16 v) ∧ ramReady State.reset .word (BitVec.ofNat 16 (v + 2)) := by
  rcases h with ⟨rfl, rfl⟩ | ⟨rfl, rfl⟩ | ⟨rfl, rfl⟩ <;>
    exact ⟨by decide, by decide, ready_word rfl (by decide) (by decide), ready_word rfl (by decide) (by decide)⟩

/-- pc odd, in the Register Space, just below RAM; at $FFFE with an instruction and with an illegal word. -/
theorem witness_BadFetches :
    { State.reset with pc := 0xC001 }.pc.toNat % 2 = 1 ∧ State.reset.pc.toNat < 0x10000 - min State.reset.chip.ramSize 0xF800 ∧
    (0xAFFE : Word).toNat < 0x10000 - min State.reset.chip.ramSize 0xF800 ∧
    decodeWord (BitVec.ofNat 16 (ramNumber (boot 0xFFFE 0xF3AB 0 [] [] []) .word 0xFFFE)) = .ok (.ldl .r3 0xAB) ∧
    decodeWord (BitVec.ofNat 16 (ramNumber (boot 0xFFFE 0x07FF 0 [] [] []) .word 0xFFFE)) = .error (.illegalOpcode 0x07FF) := by
  decide +kernel

theorem witness_BadFetches_ready (w : Word) (hw : w = 0xF3AB ∨ w = 0x07FF) :
    (boot 0xFFFE w 0 [] [] []).pc = 0xFFFE ∧
    ramReady (boot 0xFFFE w 0 [] [] []) .word (boot 0xFFFE w 0 [] [] []).pc := by
  rcases hw with rfl | rfl <;>
    exact ⟨by decide +kernel, ready_word rfl (by decide +kernel) (by decide +kernel)⟩

/-- The first word of a vector outside RAM; the second, where the vector wraps around at $FFFE. -/
theorem witness_BadVectors :
    (BitVec.ofNat 16 ({ State.reset with xgvbr := 0x000F0800 }.xgvbr.toNat % 0x10000 / 2 * 2 + 4 * (9 : BitVec 7).toNat)).toNat
      < 0x10000 - min State.reset.chip.ramSize 0xF800 ∧
    (0xFFFE#16 = BitVec.ofNat 16 ({ State.reset with xgvbr := 0x000FFFDA }.xgvbr.toNat % 0x10000 / 2 * 2 + 4 * (9 : BitVec 7).toNat)) ∧
    ramReady { State.reset with xgvbr := 0x000FFFDA } .word 0xFFFE ∧
    (0xFFFE + 2 : Word).toNat < 0x10000 - min State.reset.chip.ramSize 0xF800 :=
  ⟨by decide +kernel, by decide +kernel, ready_word rfl (by decide) (by decide), by decide +kernel⟩

theorem witness_ClearingTheError : (0x82 : Byte).getLsbD 1 = true ∧ (0x82 : Byte).getLsbD 5 = false ∧
    (0x82 : Byte).getLsbD State.reset.chip.xgssBit.index = false ∧ { State.reset with xgsweif := true }.xgsweif = true ∧
    State.reset.xgsweif = false := by decide

/-- A thread ends by RTS, by a stepped RTS, halted before and in the same write, by the host's clearing of the error or of XGCHID, and at reset. -/
theorem witness_ThreadEnds :
    (thread 0x0200 0 0).xgchid ≠ 0 ∧ nextIs (step (thread 0x0200 0 0)) (fun t => t.xgchid == 0) = true ∧
    nextIs (step { thread 0x0200 0 0 with xgdbg := true, env := [.hostWriteByte 0x00 0x88] }) (fun t => t.xgchid == 0) = true ∧
    nextIs (step { thread 0 0 0 with xgsweif := true, env := [.hostWriteByte 0x00 0x82] }) (fun t => t.xgchid == 0) = true ∧
    nextIs (applyEvent (.hostWriteByte 0x00 (0x82 &&& 0xFD)) { thread 0 0 0 with xgsweif := true }) (fun u => u.xgsweif) = true ∧
    nextIs (step { thread 0x0200 0 0 with freezeInput := true, env := [.hostWriteByte 0x00 0x78] }) (fun t => t.xgchid == 0) = true ∧
    nextIs (step { thread 0 0 0 with xgdbg := true, env := [.hostWriteByte 0x02 0x80] }) (fun t => t.xgchid == 0) = true ∧
    nextIs (step { thread 0 0 0 with env := [.reset] }) (fun t => t.xgchid == 0) = true := by decide +kernel

/-- Debug mode left and the error cleared, by the host and at reset. -/
theorem witness_OnlyTheHost :
    nextIs (step { thread 0 0 0 with xgdbg := true, env := [.hostWriteByte 0x00 0xA0] }) (fun t => !t.xgdbg) = true ∧
    nextIs (step { thread 0 0 0 with xgdbg := true, xgsweif := true, env := [.reset] }) (fun t => !t.xgdbg && !t.xgsweif) = true ∧
    nextIs (step { thread 0 0 0 with xgsweif := true, env := [.hostWriteByte 0x00 0x02] }) (fun t => !t.xgsweif) = true := by
  decide +kernel

theorem witness_InstructionsLeave :
    let s : State := { boot 0xC000 0 0 [(.r1, 0xC001)] [] [(3, .lockedCPU)] with xgif := bit128 0x78 }
    nextIs (exec .brk s) (fun t => t.xgdbg) = true ∧ nextIs (exec .rts s) (fun t => t.xgchid == 0) = true ∧
    nextIs (exec .sif s) (fun t => t.xgif.getLsbD 0x20) = true ∧ s.xgif.getLsbD 0x20 = false ∧
    nextIs (exec (.ldwOff .r2 .r1 0) s) (fun t => t.xgsweif) = true ∧ s.xgsweif = false ∧
    nextIs (exec .nop { s with xgsweif := true }) (fun t => t.xgsweif) = true ∧ s.xgif.getLsbD 0x78 = true ∧
    s.sem.get 3 = .lockedCPU := by
  decide +kernel

/-- In debug mode; a thread runs; stopped, frozen, idle. -/
theorem witness_DebugRequests :
    let r := thread 0 0 0
    r.xgdbg = false ∧ r.xgsweif = false ∧ r.freezeInput = false ∧ r.xgchid ≠ 0 ∧
    { r with xgdbg := true }.xgdbg = true ∧ { r with xgsweif := true }.xgsweif = true ∧
    ({ r with freezeInput := true, xgfrz := true }.freezeInput = true ∧ { r with freezeInput := true, xgfrz := true }.xgfrz = true) ∧
    State.reset.xgdbg = false ∧ State.reset.xgchid = 0 := by decide +kernel

/-- The five cases of a write to XGCHID: outside debug mode, a change, a start, a termination, nothing. -/
theorem witness_ChannelId :
    (0x7F : BitVec 7).toNat = (0xFF : Byte).toNat % 128 ∧ (0 : BitVec 7).toNat = (0x80 : Byte).toNat % 128 ∧
    (0x7F : BitVec 7) ≠ 0 ∧ (thread 0 0 0).xgdbg = false ∧ { thread 0 0 0 with xgdbg := true }.xgchid ≠ 0 ∧
    { State.reset with xgdbg := true }.xgchid = 0 := by decide +kernel

/-- Bytes that request debug mode, that leave it, and that step; $F1 with every other bit, $AE with XGSS and bit 1. -/
theorem witness_ControlBytes :
    [(0xB0 : Byte), 0xF1].all (fun v => v.getLsbD 5 && v.getLsbD 4 && !v.getLsbD 1
      && !v.getLsbD State.reset.chip.xgssBit.index) = true ∧
    [(0x20 : Byte), 0xAE].all (fun v => v.getLsbD 5 && !v.getLsbD 4) = true ∧
    [(0x08 : Byte), 0xCB].all (fun v => !v.getLsbD 5 && v.getLsbD State.reset.chip.xgssBit.index) = true := by
  decide +kernel

/-- In debug mode without and with a start pending, and outside it; the single step's conditions. -/
theorem witness_Debug : let s : State := { thread 0x0100 0 0 with xgdbg := true }
    s.xgdbg = true ∧ s.startPending = false ∧ { s with startPending := true }.startPending = true ∧
    (thread 0 0 0).xgdbg = false ∧
    nextIs (applyEvent (.hostWriteByte 0x00 (0xCB &&& ~~~(0x02#8 ||| (1#8 <<< s.chip.xgssBit.index)))) s) (fun u =>
      u.xgdbg && !u.xgsweif && !u.chip.secured && u.xgchid != 0 && !u.startPending
        && nextIs (executeOne u) (fun t => t.xgdbg)) = true ∧
    nextIs (applyEvent (.hostWriteByte 0x00 0x00) { s with xgsweif := true }) (fun u => u.xgsweif) = true ∧
    nextIs (applyEvent (.hostWriteByte 0x00 0x00) { State.reset with xgdbg := true }) (fun u => u.xgchid == 0) = true ∧
    { s with chip := { Config.defaultChip with secured := true } }.chip.secured = true := by decide +kernel

/-- A flag rises by SIF, of a running core and of a stepped one. -/
theorem witness_FlagsRise :
    nextIs (step (thread 0x0300 0 0)) (fun t => t.xgif.getLsbD 0x20) = true ∧ (thread 0x0300 0 0).xgif.getLsbD 0x20 = false ∧
    nextIs (step { thread 0x01F7 0x0078 0 with xgdbg := true, env := [.hostWriteByte 0x00 0x08] })
      (fun t => t.xgif.getLsbD 0x78) = true := by decide +kernel

/-- R59 admits words at the 16-bit registers and words only. -/
theorem test_word_offsets : (List.range 64).filter isWordOffset =
    [0x04, 0x06, 0x08, 0x0A, 0x0C, 0x0E, 0x10, 0x12, 0x14, 0x16, 0x18, 0x1A, 0x1E, 0x20, 0x22, 0x24, 0x26, 0x28, 0x2A, 0x2C,
      0x2E, 0x30, 0x32, 0x34, 0x36, 0x38] := by decide +kernel

/-- R352: a fetch from the Register Space, the prefetch of $0000 and a vector fetch are made before the error. -/
theorem test_illegal_accesses_are_issued :
    nextIs (step { thread 0 0 0 with pc := 0x0040 }) (fun t => t.xgsweif && t.periph == [.read .core .word 0x0040]) = true ∧
    nextIs (step (boot 0xFFFE 0x0100 0 [] [] [])) (fun t => t.xgsweif && t.periph == [.read .core .word 0x0000]) = true ∧
    nextIs (startThread 9 { State.reset with xgvbr := 0x000F0000 })
      (fun t => t.xgsweif && t.periph == [.read .core .word 0x0024]) = true ∧
    nextIs (step { thread 0 0 0 with pc := 0x0380 }) (fun t => t.xgsweif && t.periph == []) = true ∧
    nextIs (step { thread 0 0 0 with pc := 0x0800 }) (fun t => t.xgsweif && t.periph == []) = true := by decide +kernel

/-- R109: the host's write to the next program word is refused; at an odd pc there is none (log 10). -/
theorem test_host_write_at_pc :
    applyEvent (.hostRamWriteWord 0xFC000 0x0100) (thread 0 0 0) = .refused .prefetchedWordWritten ∧
    applyEvent (.hostRamWriteByte 0xFC001 0x55) (thread 0 0 0) = .refused .prefetchedWordWritten ∧
    [0xFC000, 0xFC001, 0xFC002].all (fun g => nextIs (applyEvent (.hostRamWriteByte g 0x55) { thread 0 0 0 with pc := 0xC001 })
      (fun t => t.globalByte g == 0x55)) = true :=
  ⟨rfl, rfl, by decide +kernel⟩

theorem witness_VectorBase : State.reset.chip.wellFormed = true ∧ State.reset.xge = false ∧ State.reset.xgchid = 0 ∧
    { State.reset with xge := true }.xge = true ∧ (thread 0 0 0).xgchid ≠ 0 ∧
    { Config.defaultChip with ramSize := 0x802 }.wellFormed = true ∧
    { Config.defaultChip with ramSize := 0x80000 }.wellFormed = true := by decide +kernel

theorem witness_CoreRegisters : (1 : BitVec 3) ≠ 0 ∧ (7 : BitVec 3) ≠ 0 ∧ { State.reset with xgdbg := true }.xgdbg = true ∧
    State.reset.chip.secured = false ∧ State.reset.xgdbg = false ∧
    { State.reset with chip := { Config.defaultChip with secured := true } }.chip.secured = true := by decide

/-- Bits $09 to $78 and no other. -/
theorem test_channelMask : (List.range 128).all (fun n =>
    Config.channelMask.getLsbD n == (decide (0x09 ≤ n) && decide (n ≤ 0x78))) = true := by decide +kernel

end Sys2Proof.Tests
end

section
/-! The registers after reset, and XGSEM as the S12X_CPU accesses it (10_state.md). -/

namespace Sys2Proof.Machine

/-! ## Reset -/

theorem reg_reset (q : Reg) : State.reset.reg q = 0 := by cases q <;> rfl

theorem reset_hasResetValues : State.reset.hasResetValues :=
  ⟨rfl, rfl, rfl, rfl, rfl, rfl, rfl, rfl, rfl, rfl, rfl, rfl, reg_reset⟩

/-- The reset during a run keeps only inputs and the model's own records, none of which R63 speaks of. -/
theorem resetModule_hasResetValues (s : State) : (resetModule s).hasResetValues := reset_hasResetValues

@[simp] theorem resetModule_env (s : State) : (resetModule s).env = s.env := rfl

theorem step_reset {s : State} {rest : List Event} (h : s.env = .reset :: rest) :
    step s = .next (resetModule { s with env := rest }) := by
  simp only [step, nextState, h, applyEvent]

/-- Settles O7: the reset event is `resetModule`, whose registers are those of `State.reset`. -/
theorem resetGivesTheRegistersTheirValues : Obligations.ResetGivesTheRegistersTheirValues :=
  ⟨reset_hasResetValues, fun _ _ henv => ⟨_, step_reset henv, resetModule_hasResetValues _, resetModule_env _⟩⟩

/-! ## One semaphore in XGSEM -/

theorem semaphoreNumber_cases : ∀ k : BitVec 3,
    k = 0 ∨ k = 1 ∨ k = 2 ∨ k = 3 ∨ k = 4 ∨ k = 5 ∨ k = 6 ∨ k = 7 := by decide

/-- The eight fields of the write, as one equation over the semaphore's number (R54). -/
theorem Sems.get_writeXgsem (v : Word) (t : Sems) (k : BitVec 3) :
    (writeXgsem v t).get k = semWrite v k.toNat (t.get k) := by
  rcases semaphoreNumber_cases k with rfl | rfl | rfl | rfl | rfl | rfl | rfl | rfl <;> rfl

/-- The eight bits of the view, as one equation over the semaphore's number (R53). -/
theorem getLsbD_xgsemView (t : Sems) (k : BitVec 3) :
    (xgsemView t).getLsbD k.toNat = decide (t.get k = .lockedCPU) := by
  simp only [xgsemView, BitVec.getLsbD_append]
  rcases semaphoreNumber_cases k with rfl | rfl | rfl | rfl | rfl | rfl | rfl | rfl <;> simp [Sems.get]

theorem SemState.hostWrite_true (t : SemState) :
    t.hostWrite true = if t = .unlocked then .lockedCPU else t := by
  cases t <;> rfl

theorem SemState.hostWrite_false (t : SemState) :
    t.hostWrite false = if t = .lockedCPU then .unlocked else t := by
  cases t <;> rfl

theorem semWrite_of_unmasked {v : Word} {k : Nat} (hmask : v.getLsbD (8 + k) = false) (t : SemState) :
    semWrite v k t = t := by
  simp [semWrite, hmask]

theorem semWrite_of_masked {v : Word} {k : Nat} (hmask : v.getLsbD (8 + k) = true) (t : SemState) :
    semWrite v k t = t.hostWrite (v.getLsbD k) := by
  simp [semWrite, hmask]

/-! ## The word accesses to XGSEM -/

theorem hostWriteWord_xgsem (v : Word) (s : State) :
    hostWriteWord 0x1A v s = .next { s with sem := writeXgsem v s.sem } := rfl

/-- The upper byte of XGSEM, the mask, reads zero. -/
theorem hostByte_xgsemMask (s : State) : hostByte s 0x1A = 0 := rfl

theorem hostByte_xgsem (s : State) : hostByte s 0x1B = xgsemView s.sem := rfl

theorem joinBytes_zero (b : Byte) : joinBytes 0 b = b.setWidth 16 :=
  (BitVec.setWidth_eq_append (by decide)).symm

theorem hostReadWord_xgsem (s : State) :
    hostReadWord 0x1A s = .next { s with hostData := (xgsemView s.sem).setWidth 16, draws := s.draws + 1 } := by
  have hdata : joinBytes (hostByte s 0x1A) (hostByte s 0x1B) = (xgsemView s.sem).setWidth 16 := by
    rw [hostByte_xgsemMask, hostByte_xgsem, joinBytes_zero]
  rw [← hdata]
  rfl

/-- Settles O44: the write semaphore by semaphore, split by mask bit and bit, and the read through the view. -/
theorem hostSemaphoreAccess : Obligations.HostSemaphoreAccess := by
  refine ⟨fun v s => ⟨_, hostWriteWord_xgsem v s, rfl, fun k => ?_⟩,
    fun s => ⟨_, hostReadWord_xgsem s, rfl, ?_, fun k => ?_⟩⟩
  · rw [Sems.get_writeXgsem]
    refine ⟨fun hmask => semWrite_of_unmasked hmask _, fun hmask hbit => ?_, fun hmask hbit => ?_⟩
    · rw [semWrite_of_masked hmask, hbit, SemState.hostWrite_true]
    · rw [semWrite_of_masked hmask, hbit, SemState.hostWrite_false]
  · rw [BitVec.toNat_setWidth_of_le (by decide)]
    exact (xgsemView s.sem).isLt
  · have hk : k.toNat < 16 := by omega
    simp [hk, getLsbD_xgsemView]

end Sys2Proof.Machine
end

section
/-! The words of the 8-bit immediate instructions, the effect of a computed result, and LDL and LDH (40_load_store.md). -/

namespace Sys2Proof

/-! ## Fields at their places in a word -/

theorem extractLsb'_put_same {n lo : Nat} (b : BitVec n) (hfit : lo + n ≤ 16) :
    (put lo b).extractLsb' lo n = b := by
  apply BitVec.eq_of_getLsbD_eq
  intro i hi
  have hlo : lo + i < 16 := by omega
  simp [put, hi, hlo]

theorem extractLsb'_put_disjoint {n lo start len : Nat} (b : BitVec n)
    (hdisj : start + len ≤ lo ∨ lo + n ≤ start) : (put lo b).extractLsb' start len = 0 := by
  apply BitVec.eq_of_getLsbD_eq
  intro i hi
  rcases hdisj with hbelow | habove
  · have hlt : start + i < lo := by omega
    simp [put, hlt]
  · have hge : n ≤ start + i - lo := by omega
    simp [put, BitVec.getLsbD_of_ge b _ hge]

@[simp] theorem Reg.ofBits_bits (r : Reg) : Reg.ofBits r.bits = r := by cases r <;> rfl

/-! ## The words of the 8-bit immediate instructions (R131, R136) -/

/-- The bits from 11 up are those of the row's value. -/
theorem opcode_imm8Word (v : Word) (rd : Reg) (k : Byte) (len : Nat) :
    (v ||| put 8 rd.bits ||| put 0 k).extractLsb' 11 len = v.extractLsb' 11 len := by
  rw [BitVec.extractLsb'_or, BitVec.extractLsb'_or, extractLsb'_put_disjoint rd.bits (.inr (by decide)),
    extractLsb'_put_disjoint k (.inr (by decide))]
  simp

theorem fieldD_imm8Word {v : Word} (hv : v.extractLsb' 8 3 = 0) (rd : Reg) (k : Byte) :
    fieldD (v ||| put 8 rd.bits ||| put 0 k) = rd := by
  rw [fieldD, BitVec.extractLsb'_or, BitVec.extractLsb'_or, hv, extractLsb'_put_same rd.bits (by decide),
    extractLsb'_put_disjoint k (.inr (by decide))]
  simp

theorem fieldImm8_imm8Word {v : Word} (hv : v.extractLsb' 0 8 = 0) (rd : Reg) (k : Byte) :
    fieldImm8 (v ||| put 8 rd.bits ||| put 0 k) = k := by
  rw [fieldImm8, lowByte, BitVec.extractLsb'_or, BitVec.extractLsb'_or, hv,
    extractLsb'_put_disjoint rd.bits (.inl (by decide)), extractLsb'_put_same k (by decide)]
  simp

/-- Major opcodes 16 to 31 are those with bit 15 set (R131, R140). -/
theorem decodeWord_of_imm8 {w : Word} (hmajor : 16 ≤ (w.extractLsb' 11 5).toNat) :
    decodeWord w = .ok (decodeImm8 w) := by
  unfold decodeWord
  split
  any_goals omega
  rfl

/-- A row of the 8-bit immediates reads its fields back from its word, whatever they hold. -/
theorem decodeWord_imm8Word {v : Word} {instr : Reg → Byte → Instr} (hmajor : 16 ≤ (v.extractLsb' 11 5).toNat)
    (hd : v.extractLsb' 8 3 = 0) (hk : v.extractLsb' 0 8 = 0)
    (hrow : ∀ w : Word, w.extractLsb' 11 4 = v.extractLsb' 11 4 → decodeImm8 w = instr (fieldD w) (fieldImm8 w))
    (rd : Reg) (k : Byte) : decodeWord (v ||| put 8 rd.bits ||| put 0 k) = .ok (instr rd k) := by
  rw [decodeWord_of_imm8 (by rwa [opcode_imm8Word]), hrow _ (opcode_imm8Word v rd k 4), fieldD_imm8Word hd,
    fieldImm8_imm8Word hk]

end Sys2Proof

namespace Sys2Proof.Machine

theorem isWordOf_ldl (rd : Reg) (k : Byte) :
    isWordOf (0xF000 ||| put 8 rd.bits ||| put 0 k) (.ldl rd k) := by
  refine ⟨decodeWord_imm8Word (by decide) (by decide) (by decide) (fun w hw => ?_) rd k, rfl⟩
  rw [decodeImm8, hw]
  rfl

theorem isWordOf_ldh (rd : Reg) (k : Byte) :
    isWordOf (0xF800 ||| put 8 rd.bits ||| put 0 k) (.ldh rd k) := by
  refine ⟨decodeWord_imm8Word (by decide) (by decide) (by decide) (fun w hw => ?_) rd k, rfl⟩
  rw [decodeImm8, hw]
  rfl

/-! ## A computed result and its frame -/

theorem reg_writeResult_same (s : State) (rd : Reg) (r : Word) (f : CCR) :
    (s.writeResult rd r f).reg rd = written rd r := by
  by_cases hrd : rd = .r0 <;> simp [reg_writeResult, written, hrd]

/-- `writeResult` computes its result with its flags and changes nothing else (R8, R21). -/
theorem computed_writeResult (s : State) (rd : Reg) (r : Word) (f : CCR) :
    s.computed (s.writeResult rd r f) rd r f where
  dest := reg_writeResult_same s rd r f
  others q hq := by simp [reg_writeResult, hq]
  flags := writeResult_ccr s rd r f
  pc := writeResult_pc s rd r f
  rest := rfl
  ram _ := rfl

/-- An instruction that writes no flag computes its result with the flags it found. -/
theorem advance_setReg (s : State) (rd : Reg) (r : Word) : (s.setReg rd r).advance = s.writeResult rd r s.ccr := rfl

/-! ## LDL and LDH (R180, R181) -/

theorem toNat_lowByte (w : Word) : (lowByte w).toNat = w.toNat % 256 := by
  simp [lowByte]

theorem toNat_joinBytes (h l : Byte) : (joinBytes h l).toNat = 256 * h.toNat + l.toNat := by
  rw [joinBytes, BitVec.toNat_append, ← Nat.shiftLeft_add_eq_or_of_lt l.isLt, Nat.shiftLeft_eq, Nat.mul_comm]

theorem exec_ldl (rd : Reg) (k : Byte) (s : State) :
    exec (.ldl rd k) s = .next (s.writeResult rd (k.setWidth 16) s.ccr) := by
  rw [← advance_setReg]
  rfl

theorem exec_ldh (rd : Reg) (k : Byte) (s : State) :
    exec (.ldh rd k) s = .next (s.writeResult rd (joinBytes k (lowByte (s.reg rd))) s.ccr) := by
  rw [← advance_setReg]
  rfl

/-- Settles O38: both decode by their opcode bits and write one result with the old flags; LDH's result joins the
constant to the old low byte. -/
theorem immediateLoadsBuildAConstant : Obligations.ImmediateLoadsBuildAConstant := by
  intro rd k s
  refine ⟨isWordOf_ldl rd k, isWordOf_ldh rd k,
    ⟨_, _, exec_ldl rd k s, computed_writeResult s rd _ _, ?_⟩,
    ⟨_, _, exec_ldh rd k s, computed_writeResult s rd _ _, ?_⟩⟩
  · exact BitVec.toNat_setWidth_of_le (by decide)
  · rw [toNat_joinBytes, toNat_lowByte]

end Sys2Proof.Machine
end

section
/-! Sums and differences with a carry at every width, the words of the triadic instructions, and ADD, ADC, SUB, SBC, CMPL
and CPCH (41_arith.md). -/

namespace Sys2Proof

/-! ## The words of the triadic instructions (R126, R136) -/

/-- The bits from 11 up are those of the row's value. -/
theorem opcode_triadicWord (v : Word) (rd rs1 rs2 : Reg) (len : Nat) :
    (v ||| put 8 rd.bits ||| put 5 rs1.bits ||| put 2 rs2.bits).extractLsb' 11 len = v.extractLsb' 11 len := by
  simp only [BitVec.extractLsb'_or]
  rw [extractLsb'_put_disjoint rd.bits (.inr (by decide)), extractLsb'_put_disjoint rs1.bits (.inr (by decide)),
    extractLsb'_put_disjoint rs2.bits (.inr (by decide))]
  simp

/-- Bits 1:0, which select the operation, are those of the row's value. -/
theorem selector_triadicWord (v : Word) (rd rs1 rs2 : Reg) :
    (v ||| put 8 rd.bits ||| put 5 rs1.bits ||| put 2 rs2.bits).extractLsb' 0 2 = v.extractLsb' 0 2 := by
  simp only [BitVec.extractLsb'_or]
  rw [extractLsb'_put_disjoint rd.bits (.inl (by decide)), extractLsb'_put_disjoint rs1.bits (.inl (by decide)),
    extractLsb'_put_disjoint rs2.bits (.inl (by decide))]
  simp

theorem fieldD_triadicWord {v : Word} (hv : v.extractLsb' 8 3 = 0) (rd rs1 rs2 : Reg) :
    fieldD (v ||| put 8 rd.bits ||| put 5 rs1.bits ||| put 2 rs2.bits) = rd := by
  simp only [fieldD, BitVec.extractLsb'_or]
  rw [hv, extractLsb'_put_same rd.bits (by decide), extractLsb'_put_disjoint rs1.bits (.inr (by decide)),
    extractLsb'_put_disjoint rs2.bits (.inr (by decide))]
  simp

theorem fieldS_triadicWord {v : Word} (hv : v.extractLsb' 5 3 = 0) (rd rs1 rs2 : Reg) :
    fieldS (v ||| put 8 rd.bits ||| put 5 rs1.bits ||| put 2 rs2.bits) = rs1 := by
  simp only [fieldS, BitVec.extractLsb'_or]
  rw [hv, extractLsb'_put_disjoint rd.bits (.inl (by decide)), extractLsb'_put_same rs1.bits (by decide),
    extractLsb'_put_disjoint rs2.bits (.inr (by decide))]
  simp

theorem fieldT_triadicWord {v : Word} (hv : v.extractLsb' 2 3 = 0) (rd rs1 rs2 : Reg) :
    fieldT (v ||| put 8 rd.bits ||| put 5 rs1.bits ||| put 2 rs2.bits) = rs2 := by
  simp only [fieldT, BitVec.extractLsb'_or]
  rw [hv, extractLsb'_put_disjoint rd.bits (.inl (by decide)), extractLsb'_put_disjoint rs1.bits (.inl (by decide)),
    extractLsb'_put_same rs2.bits (by decide)]
  simp

/-- Major opcode 3 is the triadic arithmetic (R126, R140). -/
theorem decodeWord_of_arith {w : Word} (hmajor : w.extractLsb' 11 5 = 3) : decodeWord w = .ok (decodeArith w) := by
  rw [decodeWord, hmajor]
  rfl

/-- A row of the triadic arithmetic reads its three registers back from its word. -/
theorem decodeWord_arithWord {v : Word} {instr : Reg → Reg → Reg → Instr} (hmajor : v.extractLsb' 11 5 = 3)
    (hd : v.extractLsb' 8 3 = 0) (hs : v.extractLsb' 5 3 = 0) (ht : v.extractLsb' 2 3 = 0)
    (hrow : ∀ w : Word, w.extractLsb' 0 2 = v.extractLsb' 0 2 → decodeArith w = instr (fieldD w) (fieldS w) (fieldT w))
    (rd rs1 rs2 : Reg) :
    decodeWord (v ||| put 8 rd.bits ||| put 5 rs1.bits ||| put 2 rs2.bits) = .ok (instr rd rs1 rs2) := by
  rw [decodeWord_of_arith (by rwa [opcode_triadicWord]), hrow _ (selector_triadicWord v rd rs1 rs2),
    fieldD_triadicWord hd, fieldS_triadicWord hs, fieldT_triadicWord ht]

end Sys2Proof

namespace Sys2Proof.Machine

theorem isWordOf_add (rd rs1 rs2 : Reg) :
    isWordOf (0x1802 ||| put 8 rd.bits ||| put 5 rs1.bits ||| put 2 rs2.bits) (.add rd rs1 rs2) := by
  refine ⟨decodeWord_arithWord (by decide) (by decide) (by decide) (by decide) (fun w hw => ?_) rd rs1 rs2, rfl⟩
  rw [decodeArith, hw]
  rfl

theorem isWordOf_adc (rd rs1 rs2 : Reg) :
    isWordOf (0x1803 ||| put 8 rd.bits ||| put 5 rs1.bits ||| put 2 rs2.bits) (.adc rd rs1 rs2) := by
  refine ⟨decodeWord_arithWord (by decide) (by decide) (by decide) (by decide) (fun w hw => ?_) rd rs1 rs2, rfl⟩
  rw [decodeArith, hw]
  rfl

theorem isWordOf_sub (rd rs1 rs2 : Reg) :
    isWordOf (0x1800 ||| put 8 rd.bits ||| put 5 rs1.bits ||| put 2 rs2.bits) (.sub rd rs1 rs2) := by
  refine ⟨decodeWord_arithWord (by decide) (by decide) (by decide) (by decide) (fun w hw => ?_) rd rs1 rs2, rfl⟩
  rw [decodeArith, hw]
  rfl

theorem isWordOf_sbc (rd rs1 rs2 : Reg) :
    isWordOf (0x1801 ||| put 8 rd.bits ||| put 5 rs1.bits ||| put 2 rs2.bits) (.sbc rd rs1 rs2) := by
  refine ⟨decodeWord_arithWord (by decide) (by decide) (by decide) (by decide) (fun w hw => ?_) rd rs1 rs2, rfl⟩
  rw [decodeArith, hw]
  rfl

theorem isWordOf_cmpl (rs : Reg) (k : Byte) :
    isWordOf (0xD000 ||| put 8 rs.bits ||| put 0 k) (.cmpl rs k) := by
  refine ⟨decodeWord_imm8Word (by decide) (by decide) (by decide) (fun w hw => ?_) rs k, rfl⟩
  rw [decodeImm8, hw]
  rfl

theorem isWordOf_cpch (rs : Reg) (k : Byte) :
    isWordOf (0xD800 ||| put 8 rs.bits ||| put 0 k) (.cpch rs k) := by
  refine ⟨decodeWord_imm8Word (by decide) (by decide) (by decide) (fun w hw => ?_) rs k, rfl⟩
  rw [decodeImm8, hw]
  rfl

/-! ## Sums and differences with a carry, at every width -/

theorem carryIn_false (w : Nat) : (carryIn false : BitVec w) = 0#w := by
  simp [carryIn]

theorem toNat_carryIn {w : Nat} (hw : 0 < w) (c : Bool) : (carryIn c : BitVec w).toNat = c.toNat := by
  rw [carryIn, BitVec.toNat_setWidth_of_le hw, BitVec.toNat_ofBool]

theorem toNat_add_carryIn {w : Nat} (hw : 0 < w) (a b : BitVec w) (c : Bool) :
    (a + b + carryIn c).toNat = (a.toNat + b.toNat + c.toNat) % 2 ^ w := by
  rw [BitVec.toNat_add, BitVec.toNat_add, toNat_carryIn hw, Nat.mod_add_mod]

/-- The exact sum, or the exact sum less `2 ^ w` where it does not fit. -/
theorem toNat_add_carryIn_cases {w : Nat} (hw : 0 < w) (a b : BitVec w) (c : Bool) :
    (a + b + carryIn c).toNat = a.toNat + b.toNat + c.toNat ∨
      (a + b + carryIn c).toNat + 2 ^ w = a.toNat + b.toNat + c.toNat := by
  have ha := a.isLt
  have hb := b.isLt
  have hc := c.toNat_le
  rw [toNat_add_carryIn hw]
  rcases Nat.lt_or_ge (a.toNat + b.toNat + c.toNat) (2 ^ w) with hfits | hwraps
  · exact .inl (Nat.mod_eq_of_lt hfits)
  · right
    rw [Nat.mod_eq_sub_mod hwraps, Nat.mod_eq_of_lt (by omega)]
    omega

/-- The exact difference, or `2 ^ w` more where it is negative: `a` is the sum of the result, `b` and the carry. -/
theorem toNat_sub_carryIn_cases {w : Nat} (hw : 0 < w) (a b : BitVec w) (c : Bool) :
    a.toNat = (a - b - carryIn c).toNat + b.toNat + c.toNat ∨
      a.toNat + 2 ^ w = (a - b - carryIn c).toNat + b.toNat + c.toNat := by
  have hsum : a - b - carryIn c + b + carryIn c = a := by ring
  have hcases := toNat_add_carryIn_cases hw (a - b - carryIn c) b c
  rwa [hsum] at hcases

theorem toNat_sub_carryIn {w : Nat} (hw : 0 < w) (a b : BitVec w) (c : Bool) :
    ((a - b - carryIn c).toNat : Int) = ((a.toNat : Int) - b.toNat - c.toNat) % 2 ^ w := by
  have hr : ((a - b - carryIn c).toNat : Int) < 2 ^ w := by exact_mod_cast (a - b - carryIn c).isLt
  have hpos : (0 : Int) ≤ (a - b - carryIn c).toNat := Int.natCast_nonneg _
  rcases toNat_sub_carryIn_cases hw a b c with hfits | hborrows
  · have hexact : (a.toNat : Int) - b.toNat - c.toNat = (a - b - carryIn c).toNat := by omega
    rw [hexact, Int.emod_eq_of_lt hpos hr]
  · have hexact : (a.toNat : Int) - b.toNat - c.toNat = (a - b - carryIn c).toNat - 2 ^ w := by
      zify at hborrows
      linarith
    rw [hexact, Int.sub_emod_right, Int.emod_eq_of_lt hpos hr]

/-! ## The flags of R191 and R192 as arithmetic -/

theorem exists_half_range {w : Nat} (hw : 0 < w) : ∃ p : Nat, 2 ^ w = 2 * p ∧ (2 : Int) ^ (w - 1) = p :=
  ⟨2 ^ (w - 1), (mul_pow_sub_one hw.ne' 2).symm, by push_cast; rfl⟩

/-- The top bit and the signed reading by the half of the range the value lies in. -/
theorem msb_and_toInt {w p : Nat} (hp : 2 ^ w = 2 * p) (x : BitVec w) :
    (x.msb = true ↔ p ≤ x.toNat) ∧
      (x.toNat < p ∧ x.toInt = x.toNat ∨ p ≤ x.toNat ∧ x.toNat < 2 * p ∧ x.toInt = x.toNat - 2 * p) := by
  have hlt := x.isLt
  refine ⟨by rw [BitVec.msb_eq_true_iff_two_mul_ge]; omega, ?_⟩
  rw [BitVec.toInt_eq_toNat_cond]
  split <;> omega

theorem sumOf_addFlags {w : Nat} (hw : 0 < w) (a b : BitVec w) (c : Bool) :
    SumOf a b c (a + b + carryIn c) (addFlags a b (a + b + carryIn c)) := by
  have hvalue := toNat_add_carryIn hw a b c
  have hcases := toNat_add_carryIn_cases hw a b c
  generalize a + b + carryIn c = r at hvalue hcases ⊢
  obtain ⟨p, hp, hpInt⟩ := exists_half_range hw
  obtain ⟨hma, hia⟩ := msb_and_toInt hp a
  obtain ⟨hmb, hib⟩ := msb_and_toInt hp b
  obtain ⟨hmr, hir⟩ := msb_and_toInt hp r
  have hc := c.toNat_le
  refine ⟨hvalue, ?sign, ?overflow, ?carry⟩
  all_goals simp only [addFlags, Bool.or_eq_true, Bool.and_eq_true, Bool.not_eq_true', ← Bool.not_eq_true, hma, hmb, hmr,
    hpInt]
  all_goals omega

theorem differenceOf_subFlags {w : Nat} (hw : 0 < w) (a b : BitVec w) (c : Bool) :
    DifferenceOf a b c (a - b - carryIn c) (subFlags a b (a - b - carryIn c)) := by
  have hvalue := toNat_sub_carryIn hw a b c
  have hcases := toNat_sub_carryIn_cases hw a b c
  generalize a - b - carryIn c = r at hvalue hcases ⊢
  obtain ⟨p, hp, hpInt⟩ := exists_half_range hw
  obtain ⟨hma, hia⟩ := msb_and_toInt hp a
  obtain ⟨hmb, hib⟩ := msb_and_toInt hp b
  obtain ⟨hmr, hir⟩ := msb_and_toInt hp r
  have hc := c.toNat_le
  refine ⟨hvalue, ?sign, ?overflow, ?carry⟩
  all_goals simp only [subFlags, Bool.or_eq_true, Bool.and_eq_true, Bool.not_eq_true', ← Bool.not_eq_true, hma, hmb, hmr,
    hpInt]
  all_goals omega

/-- Without a carry in. -/
theorem sumOf_addFlags_false {w : Nat} (hw : 0 < w) (a b : BitVec w) : SumOf a b false (a + b) (addFlags a b (a + b)) := by
  simpa [carryIn_false] using sumOf_addFlags hw a b false

/-- Without a borrow in. -/
theorem differenceOf_subFlags_false {w : Nat} (hw : 0 < w) (a b : BitVec w) :
    DifferenceOf a b false (a - b) (subFlags a b (a - b)) := by
  simpa [carryIn_false] using differenceOf_subFlags hw a b false

/-- The carried Zero Flag (R193) leaves the other three flags. -/
theorem SumOf.of_carryZero {w : Nat} {a b r : BitVec w} {c : Bool} {f : CCR} (old : CCR) (h : SumOf a b c r f) :
    SumOf a b c r (carryZero old f) :=
  ⟨h.value, h.sign, h.overflow, h.carry⟩

theorem DifferenceOf.of_carryZero {w : Nat} {a b r : BitVec w} {c : Bool} {f : CCR} (old : CCR)
    (h : DifferenceOf a b c r f) : DifferenceOf a b c r (carryZero old f) :=
  ⟨h.value, h.sign, h.overflow, h.carry⟩

theorem addFlags_z {w : Nat} (a b r : BitVec w) : (addFlags a b r).z = true ↔ r = 0 := decide_eq_true_iff

theorem subFlags_z {w : Nat} (a b r : BitVec w) : (subFlags a b r).z = true ↔ r = 0 := decide_eq_true_iff

theorem carryZero_z (old f : CCR) : (carryZero old f).z = true ↔ f.z = true ∧ old.z = true := by
  simp [carryZero]

/-! ## ADD and ADC (R195, R196) -/

theorem exec_add (rd rs1 rs2 : Reg) (s : State) :
    exec (.add rd rs1 rs2) s = .next (s.writeResult rd (s.reg rs1 + s.reg rs2)
      (addFlags (s.reg rs1) (s.reg rs2) (s.reg rs1 + s.reg rs2))) := rfl

theorem exec_adc (rd rs1 rs2 : Reg) (s : State) :
    exec (.adc rd rs1 rs2) s = .next (s.writeResult rd (s.reg rs1 + s.reg rs2 + carryIn s.ccr.c)
      (carryZero s.ccr (addFlags (s.reg rs1) (s.reg rs2) (s.reg rs1 + s.reg rs2 + carryIn s.ccr.c)))) := rfl

/-- Settles O10: both write the sum as one result with the flags of R191, which are those of the exact sum; ADC's Zero
Flag is carried. -/
theorem addAndAdcGiveTheSum : Obligations.AddAndAdcGiveTheSum := by
  intro rd rs1 rs2 s
  refine ⟨isWordOf_add rd rs1 rs2, isWordOf_adc rd rs1 rs2,
    ⟨_, _, _, exec_add rd rs1 rs2 s, computed_writeResult s rd _ _, sumOf_addFlags_false (by decide) _ _, ?_⟩,
    ⟨_, _, _, exec_adc rd rs1 rs2 s, computed_writeResult s rd _ _,
      (sumOf_addFlags (by decide) _ _ _).of_carryZero s.ccr, ?_⟩⟩
  · exact addFlags_z _ _ _
  · rw [carryZero_z, addFlags_z]

/-! ## SUB and SBC (R197, R198) -/

theorem exec_sub (rd rs1 rs2 : Reg) (s : State) :
    exec (.sub rd rs1 rs2) s = .next (s.writeResult rd (s.reg rs1 - s.reg rs2)
      (subFlags (s.reg rs1) (s.reg rs2) (s.reg rs1 - s.reg rs2))) := rfl

theorem exec_sbc (rd rs1 rs2 : Reg) (s : State) :
    exec (.sbc rd rs1 rs2) s = .next (s.writeResult rd (s.reg rs1 - s.reg rs2 - carryIn s.ccr.c)
      (carryZero s.ccr (subFlags (s.reg rs1) (s.reg rs2) (s.reg rs1 - s.reg rs2 - carryIn s.ccr.c)))) := rfl

/-- Settles O11: both write the difference as one result with the flags of R192, which are those of the exact difference;
SBC's Zero Flag is carried. -/
theorem subAndSbcGiveTheDifference : Obligations.SubAndSbcGiveTheDifference := by
  intro rd rs1 rs2 s
  refine ⟨isWordOf_sub rd rs1 rs2, isWordOf_sbc rd rs1 rs2,
    ⟨_, _, _, exec_sub rd rs1 rs2 s, computed_writeResult s rd _ _, differenceOf_subFlags_false (by decide) _ _, ?_⟩,
    ⟨_, _, _, exec_sbc rd rs1 rs2 s, computed_writeResult s rd _ _,
      (differenceOf_subFlags (by decide) _ _ _).of_carryZero s.ccr, ?_⟩⟩
  · exact subFlags_z _ _ _
  · rw [carryZero_z, subFlags_z]

/-! ## CMPL and CPCH (R208, R209) -/

/-- Writing the flags and advancing pc changes nothing else (R8). -/
theorem tested_setCcr_advance (s : State) (f : CCR) : s.tested (s.setCcr f).advance f where
  regs _ := rfl
  flags := rfl
  pc := rfl
  rest := rfl
  ram _ := rfl

theorem exec_cmpl (rs : Reg) (k : Byte) (s : State) :
    exec (.cmpl rs k) s =
      .next (s.setCcr (subFlags (lowByte (s.reg rs)) k (lowByte (s.reg rs) - k))).advance := rfl

theorem exec_cpch (rs : Reg) (k : Byte) (s : State) :
    exec (.cpch rs k) s = .next (s.setCcr (carryZero s.ccr (subFlags (highByte (s.reg rs)) k
      (highByte (s.reg rs) - k - carryIn s.ccr.c)))).advance := rfl

/-- Settles O13: the flags of R192 at eight bits, for the low byte and for the high byte with the borrow and the carried
Zero Flag. -/
theorem cmplAndCpchWriteTheFlagsOnly : Obligations.CmplAndCpchWriteTheFlagsOnly := by
  intro rs k s
  refine ⟨isWordOf_cmpl rs k, isWordOf_cpch rs k,
    ⟨_, _, _, exec_cmpl rs k s, tested_setCcr_advance s _, differenceOf_subFlags_false (by decide) _ _, ?_⟩,
    ⟨_, _, _, exec_cpch rs k s, tested_setCcr_advance s _,
      (differenceOf_subFlags (by decide) _ _ _).of_carryZero s.ccr, ?_⟩⟩
  · exact subFlags_z _ _ _
  · rw [carryZero_z, subFlags_z, highByte]

end Sys2Proof.Machine
end

section
/-! The words of the triadic logic and of the monadic instructions, the flags of a logic result, the two bytes of a word bit
by bit, and the logic instructions with SEX and PAR (42_logic.md). -/

namespace Sys2Proof

/-! ## The words of the triadic logic (R126, R136) -/

/-- Major opcode 2 is the triadic logic (R126, R140). -/
theorem decodeWord_of_logic {w : Word} (hmajor : w.extractLsb' 11 5 = 2) : decodeWord w = decodeLogic w := by
  rw [decodeWord, hmajor]
  rfl

/-- A row of the triadic logic reads its three registers back from its word. -/
theorem decodeWord_logicWord {v : Word} {instr : Reg → Reg → Reg → Instr} (hmajor : v.extractLsb' 11 5 = 2)
    (hd : v.extractLsb' 8 3 = 0) (hs : v.extractLsb' 5 3 = 0) (ht : v.extractLsb' 2 3 = 0)
    (hrow : ∀ w : Word, w.extractLsb' 0 2 = v.extractLsb' 0 2 →
      decodeLogic w = .ok (instr (fieldD w) (fieldS w) (fieldT w)))
    (rd rs1 rs2 : Reg) :
    decodeWord (v ||| put 8 rd.bits ||| put 5 rs1.bits ||| put 2 rs2.bits) = .ok (instr rd rs1 rs2) := by
  rw [decodeWord_of_logic (by rwa [opcode_triadicWord]), hrow _ (selector_triadicWord v rd rs1 rs2),
    fieldD_triadicWord hd, fieldS_triadicWord hs, fieldT_triadicWord ht]

/-! ## The words of the monadic instructions (R123, R136) -/

/-- The register stands in bits 10:8, so a run of bits above or below is that of the row's value. -/
theorem extractLsb'_monadicWord (v : Word) (rd : Reg) {start len : Nat} (hclear : start + len ≤ 8 ∨ 11 ≤ start) :
    (v ||| put 8 rd.bits).extractLsb' start len = v.extractLsb' start len := by
  rw [BitVec.extractLsb'_or, extractLsb'_put_disjoint rd.bits hclear]
  simp

theorem fieldD_monadicWord {v : Word} (hv : v.extractLsb' 8 3 = 0) (rd : Reg) :
    fieldD (v ||| put 8 rd.bits) = rd := by
  rw [fieldD, BitVec.extractLsb'_or, hv, extractLsb'_put_same rd.bits (by decide)]
  simp

/-- Major opcode 0 holds the inherent and the monadic instructions (R122, R123, R140). -/
theorem decodeWord_of_system {w : Word} (hmajor : w.extractLsb' 11 5 = 0) : decodeWord w = decodeSystem w := by
  rw [decodeWord, hmajor]
  rfl

/-- A row of the monadic instructions reads its register back from its word. -/
theorem decodeWord_monadicWord {v : Word} {instr : Reg → Instr} (hmajor : v.extractLsb' 11 5 = 0)
    (hd : v.extractLsb' 8 3 = 0)
    (hrow : ∀ w : Word, w.extractLsb' 0 8 = v.extractLsb' 0 8 → decodeSystem w = .ok (instr (fieldD w))) (rd : Reg) :
    decodeWord (v ||| put 8 rd.bits) = .ok (instr rd) := by
  rw [decodeWord_of_system (by rwa [extractLsb'_monadicWord v rd (.inr (by decide))]),
    hrow _ (extractLsb'_monadicWord v rd (.inl (by decide))), fieldD_monadicWord hd]

/-! ## The two bytes of a word, bit by bit (R7) -/

theorem getLsbD_lowByte (w : Word) {i : Nat} (hi : i < 8) : (lowByte w).getLsbD i = w.getLsbD i := by
  simp [lowByte, hi]

theorem getLsbD_highByte (w : Word) {i : Nat} (hi : i < 8) : (highByte w).getLsbD i = w.getLsbD (8 + i) := by
  simp [highByte, hi]

@[simp] theorem lowByte_joinBytes (h l : Byte) : lowByte (joinBytes h l) = l := BitVec.extractLsb'_append_eq_right

@[simp] theorem highByte_joinBytes (h l : Byte) : highByte (joinBytes h l) = h := BitVec.extractLsb'_append_eq_left

end Sys2Proof

namespace Sys2Proof.Machine

theorem isWordOf_and (rd rs1 rs2 : Reg) :
    isWordOf (0x1000 ||| put 8 rd.bits ||| put 5 rs1.bits ||| put 2 rs2.bits) (.and rd rs1 rs2) := by
  refine ⟨decodeWord_logicWord (by decide) (by decide) (by decide) (by decide) (fun w hw => ?_) rd rs1 rs2, rfl⟩
  rw [decodeLogic, hw]
  rfl

theorem isWordOf_or (rd rs1 rs2 : Reg) :
    isWordOf (0x1002 ||| put 8 rd.bits ||| put 5 rs1.bits ||| put 2 rs2.bits) (.or rd rs1 rs2) := by
  refine ⟨decodeWord_logicWord (by decide) (by decide) (by decide) (by decide) (fun w hw => ?_) rd rs1 rs2, rfl⟩
  rw [decodeLogic, hw]
  rfl

theorem isWordOf_xnor (rd rs1 rs2 : Reg) :
    isWordOf (0x1003 ||| put 8 rd.bits ||| put 5 rs1.bits ||| put 2 rs2.bits) (.xnor rd rs1 rs2) := by
  refine ⟨decodeWord_logicWord (by decide) (by decide) (by decide) (by decide) (fun w hw => ?_) rd rs1 rs2, rfl⟩
  rw [decodeLogic, hw]
  rfl

/-- A row of the 8-bit immediates with its fields clear is the word of the instruction that the decoder's arm for its opcode
names. -/
theorem isWordOf_imm8Word {v : Word} {instr : Reg → Byte → Instr}
    (hv : 16 ≤ (v.extractLsb' 11 5).toNat ∧ v.extractLsb' 8 3 = 0 ∧ v.extractLsb' 0 8 = 0)
    (hrow : ∀ w : Word, w.extractLsb' 11 4 = v.extractLsb' 11 4 → decodeImm8 w = instr (fieldD w) (fieldImm8 w))
    (hencode : ∀ rd k, encode (instr rd k) = v ||| put 8 rd.bits ||| put 0 k) (rd : Reg) (k : Byte) :
    isWordOf (v ||| put 8 rd.bits ||| put 0 k) (instr rd k) :=
  have ⟨hmajor, hd, hk⟩ := hv
  ⟨decodeWord_imm8Word hmajor hd hk hrow rd k, hencode rd k⟩

theorem isWordOf_andl : ∀ (rd : Reg) (k : Byte), isWordOf (0x8000 ||| put 8 rd.bits ||| put 0 k) (.andl rd k) :=
  isWordOf_imm8Word (by decide) (fun w hw => by rw [decodeImm8, hw]; rfl) (fun _ _ => rfl)

theorem isWordOf_andh : ∀ (rd : Reg) (k : Byte), isWordOf (0x8800 ||| put 8 rd.bits ||| put 0 k) (.andh rd k) :=
  isWordOf_imm8Word (by decide) (fun w hw => by rw [decodeImm8, hw]; rfl) (fun _ _ => rfl)

theorem isWordOf_bitl : ∀ (rd : Reg) (k : Byte), isWordOf (0x9000 ||| put 8 rd.bits ||| put 0 k) (.bitl rd k) :=
  isWordOf_imm8Word (by decide) (fun w hw => by rw [decodeImm8, hw]; rfl) (fun _ _ => rfl)

theorem isWordOf_bith : ∀ (rd : Reg) (k : Byte), isWordOf (0x9800 ||| put 8 rd.bits ||| put 0 k) (.bith rd k) :=
  isWordOf_imm8Word (by decide) (fun w hw => by rw [decodeImm8, hw]; rfl) (fun _ _ => rfl)

theorem isWordOf_orl : ∀ (rd : Reg) (k : Byte), isWordOf (0xA000 ||| put 8 rd.bits ||| put 0 k) (.orl rd k) :=
  isWordOf_imm8Word (by decide) (fun w hw => by rw [decodeImm8, hw]; rfl) (fun _ _ => rfl)

theorem isWordOf_orh : ∀ (rd : Reg) (k : Byte), isWordOf (0xA800 ||| put 8 rd.bits ||| put 0 k) (.orh rd k) :=
  isWordOf_imm8Word (by decide) (fun w hw => by rw [decodeImm8, hw]; rfl) (fun _ _ => rfl)

theorem isWordOf_xnorl : ∀ (rd : Reg) (k : Byte), isWordOf (0xB000 ||| put 8 rd.bits ||| put 0 k) (.xnorl rd k) :=
  isWordOf_imm8Word (by decide) (fun w hw => by rw [decodeImm8, hw]; rfl) (fun _ _ => rfl)

theorem isWordOf_xnorh : ∀ (rd : Reg) (k : Byte), isWordOf (0xB800 ||| put 8 rd.bits ||| put 0 k) (.xnorh rd k) :=
  isWordOf_imm8Word (by decide) (fun w hw => by rw [decodeImm8, hw]; rfl) (fun _ _ => rfl)

theorem isWordOf_sex (rd : Reg) : isWordOf (0x00F4 ||| put 8 rd.bits) (.sex rd) := by
  refine ⟨decodeWord_monadicWord (by decide) (by decide) (fun w hw => ?_) rd, rfl⟩
  rw [decodeSystem, hw]
  rfl

theorem isWordOf_par (rd : Reg) : isWordOf (0x00F5 ||| put 8 rd.bits) (.par rd) := by
  refine ⟨decodeWord_monadicWord (by decide) (by decide) (fun w hw => ?_) rd, rfl⟩
  rw [decodeSystem, hw]
  rfl

/-! ## Flags and bits of a logic result -/

/-- `logicFlags` computes the flags of R220, at every width. -/
theorem logicFlagsOf_logicFlags {w : Nat} (r : BitVec w) (old : CCR) : LogicFlagsOf old r (logicFlags r old) where
  sign := by rw [logicFlags, BitVec.msb_eq_toInt, decide_eq_true_iff]
  zero := decide_eq_true_iff
  overflow := rfl
  carry := rfl

theorem getLsbD_not_xor {w : Nat} (a b : BitVec w) {i : Nat} (hi : i < w) :
    (~~~(a ^^^ b)).getLsbD i = (a.getLsbD i == b.getLsbD i) := by
  rw [BitVec.getLsbD_not, BitVec.getLsbD_xor, decide_eq_true hi, Bool.true_and]
  cases a.getLsbD i <;> simp

/-! ## AND, OR and XNOR of two registers (R222 to R224) -/

/-- `logicWord` writes its value with the logic flags of it and changes nothing else. -/
theorem computed_logicWord (s : State) (rd : Reg) (r : Word) :
    s.computed (logicWord rd r s) rd r (logicFlags r s.ccr) :=
  computed_writeResult s rd r _

theorem exec_and (rd rs1 rs2 : Reg) (s : State) :
    exec (.and rd rs1 rs2) s = .next (logicWord rd (s.reg rs1 &&& s.reg rs2) s) := rfl

theorem exec_or (rd rs1 rs2 : Reg) (s : State) :
    exec (.or rd rs1 rs2) s = .next (logicWord rd (s.reg rs1 ||| s.reg rs2) s) := rfl

theorem exec_xnor (rd rs1 rs2 : Reg) (s : State) :
    exec (.xnor rd rs1 rs2) s = .next (logicWord rd (~~~(s.reg rs1 ^^^ s.reg rs2)) s) := rfl

/-- Settles O17: each writes one word with the logic flags of it, and the word's bits are the operation of the sources'
bits. -/
theorem triadicLogicWorksBitByBit : Obligations.TriadicLogicWorksBitByBit := by
  intro rd rs1 rs2 s
  refine ⟨isWordOf_and rd rs1 rs2, isWordOf_or rd rs1 rs2, isWordOf_xnor rd rs1 rs2,
    ⟨_, _, _, exec_and rd rs1 rs2 s, computed_logicWord s rd _, logicFlagsOf_logicFlags _ _, fun i _ => ?_⟩,
    ⟨_, _, _, exec_or rd rs1 rs2 s, computed_logicWord s rd _, logicFlagsOf_logicFlags _ _, fun i _ => ?_⟩,
    ⟨_, _, _, exec_xnor rd rs1 rs2 s, computed_logicWord s rd _, logicFlagsOf_logicFlags _ _, fun i hi => ?_⟩⟩
  · exact BitVec.getLsbD_and
  · exact BitVec.getLsbD_or
  · exact getLsbD_not_xor _ _ hi

/-! ## AND, OR and XNOR of one byte with a constant (R230, R231, R234 to R237) -/

/-- An instruction that ends in `logicLow` with a byte made bit by bit from RD's low byte and the constant does to RD's low
bits what `op` does to the two bits, with the logic flags of the byte, and keeps RD's high byte and all else. -/
theorem logicLow_bitByBit {instr : Instr} {s : State} {rd : Reg} {k b : Byte} (op : Bool → Bool → Bool)
    (hexec : exec instr s = .next (logicLow rd b s))
    (hbit : ∀ i, i < 8 → b.getLsbD i = op ((lowByte (s.reg rd)).getLsbD i) (k.getLsbD i)) :
    ∃ t r f, exec instr s = .next t ∧ s.computed t rd r f ∧ LogicFlagsOf s.ccr (r.extractLsb' 0 8) f ∧
      r.extractLsb' 8 8 = (s.reg rd).extractLsb' 8 8 ∧
      ∀ i, i < 8 → r.getLsbD i = op ((s.reg rd).getLsbD i) (k.getLsbD i) := by
  have hlow : (joinBytes (highByte (s.reg rd)) b).extractLsb' 0 8 = b := lowByte_joinBytes _ _
  refine ⟨_, _, _, hexec, computed_writeResult s rd _ _, ?flags, highByte_joinBytes _ _, fun i hi => ?bits⟩
  case flags =>
    rw [hlow]
    exact logicFlagsOf_logicFlags b s.ccr
  case bits => rw [← getLsbD_lowByte _ hi, lowByte_joinBytes, hbit i hi, getLsbD_lowByte _ hi]

/-- The same for `logicHigh`, RD's high byte and RD's bits from 8 up. -/
theorem logicHigh_bitByBit {instr : Instr} {s : State} {rd : Reg} {k b : Byte} (op : Bool → Bool → Bool)
    (hexec : exec instr s = .next (logicHigh rd b s))
    (hbit : ∀ i, i < 8 → b.getLsbD i = op ((highByte (s.reg rd)).getLsbD i) (k.getLsbD i)) :
    ∃ t r f, exec instr s = .next t ∧ s.computed t rd r f ∧ LogicFlagsOf s.ccr (r.extractLsb' 8 8) f ∧
      r.extractLsb' 0 8 = (s.reg rd).extractLsb' 0 8 ∧
      ∀ i, i < 8 → r.getLsbD (8 + i) = op ((s.reg rd).getLsbD (8 + i)) (k.getLsbD i) := by
  have hhigh : (joinBytes b (lowByte (s.reg rd))).extractLsb' 8 8 = b := highByte_joinBytes _ _
  refine ⟨_, _, _, hexec, computed_writeResult s rd _ _, ?flags, lowByte_joinBytes _ _, fun i hi => ?bits⟩
  case flags =>
    rw [hhigh]
    exact logicFlagsOf_logicFlags b s.ccr
  case bits => rw [← getLsbD_highByte _ hi, highByte_joinBytes, hbit i hi, getLsbD_highByte _ hi]

theorem exec_andl (rd : Reg) (k : Byte) (s : State) :
    exec (.andl rd k) s = .next (logicLow rd (lowByte (s.reg rd) &&& k) s) := rfl

theorem exec_orl (rd : Reg) (k : Byte) (s : State) :
    exec (.orl rd k) s = .next (logicLow rd (lowByte (s.reg rd) ||| k) s) := rfl

theorem exec_xnorl (rd : Reg) (k : Byte) (s : State) :
    exec (.xnorl rd k) s = .next (logicLow rd (~~~(lowByte (s.reg rd) ^^^ k)) s) := rfl

theorem exec_andh (rd : Reg) (k : Byte) (s : State) :
    exec (.andh rd k) s = .next (logicHigh rd (highByte (s.reg rd) &&& k) s) := rfl

theorem exec_orh (rd : Reg) (k : Byte) (s : State) :
    exec (.orh rd k) s = .next (logicHigh rd (highByte (s.reg rd) ||| k) s) := rfl

theorem exec_xnorh (rd : Reg) (k : Byte) (s : State) :
    exec (.xnorh rd k) s = .next (logicHigh rd (~~~(highByte (s.reg rd) ^^^ k)) s) := rfl

/-- Settles O18: each joins the byte it computes to the other byte of RD, so it works bit by bit on its own byte alone. -/
theorem byteLogicWithAConstant : Obligations.ByteLogicWithAConstant := by
  intro rd k s
  exact ⟨isWordOf_andl rd k, isWordOf_orl rd k, isWordOf_xnorl rd k,
    logicLow_bitByBit and (exec_andl rd k s) fun _ _ => BitVec.getLsbD_and,
    logicLow_bitByBit or (exec_orl rd k s) fun _ _ => BitVec.getLsbD_or,
    logicLow_bitByBit (· == ·) (exec_xnorl rd k s) fun _ hi => getLsbD_not_xor _ _ hi,
    isWordOf_andh rd k, isWordOf_orh rd k, isWordOf_xnorh rd k,
    logicHigh_bitByBit and (exec_andh rd k s) fun _ _ => BitVec.getLsbD_and,
    logicHigh_bitByBit or (exec_orh rd k s) fun _ _ => BitVec.getLsbD_or,
    logicHigh_bitByBit (· == ·) (exec_xnorh rd k s) fun _ hi => getLsbD_not_xor _ _ hi⟩

/-! ## BITL and BITH (R232, R233) -/

theorem exec_bitl (rd : Reg) (k : Byte) (s : State) :
    exec (.bitl rd k) s = .next (s.setCcr (logicFlags (lowByte (s.reg rd) &&& k) s.ccr)).advance := rfl

theorem exec_bith (rd : Reg) (k : Byte) (s : State) :
    exec (.bith rd k) s = .next (s.setCcr (logicFlags (highByte (s.reg rd) &&& k) s.ccr)).advance := rfl

/-- Settles O19: both write only the logic flags, those of the byte under the constant as a mask. -/
theorem bitTestsWriteTheFlagsOnly : Obligations.BitTestsWriteTheFlagsOnly := by
  intro rd k s
  refine ⟨isWordOf_bitl rd k, isWordOf_bith rd k,
    ⟨_, _, _, exec_bitl rd k s, tested_setCcr_advance s _, logicFlagsOf_logicFlags _ _, fun i hi => ?_⟩,
    ⟨_, _, _, exec_bith rd k s, tested_setCcr_advance s _, logicFlagsOf_logicFlags _ _, fun i hi => ?_⟩⟩
  · rw [BitVec.getLsbD_and, getLsbD_lowByte _ hi]
  · rw [BitVec.getLsbD_and, getLsbD_highByte _ hi]

/-! ## SEX and PAR (R244, R245) -/

/-- The parity recursion says whether the ones among the low `k` bits are odd in number. -/
theorem parityBelow_iff (v : Word) (k : Nat) :
    parityBelow k v = true ↔ ((List.range k).filter (fun i => v.getLsbD i)).length % 2 = 1 := by
  induction k with
  | zero => simp [parityBelow]
  | succ k ih =>
    rw [parityBelow, List.range_succ, List.filter_append, List.length_append, List.filter_singleton]
    cases v.getLsbD k with
    | false => simpa using ih
    | true =>
      rw [Bool.true_xor, Bool.not_eq_true', ← Bool.not_eq_true, ih, cond_true, List.length_singleton]
      omega

theorem exec_sex (rd : Reg) (s : State) :
    exec (.sex rd) s = .next (logicWord rd ((lowByte (s.reg rd)).signExtend 16) s) := rfl

theorem exec_par (rd : Reg) (s : State) :
    exec (.par rd) s = .next (s.setCcr
      { n := false, z := decide (s.reg rd = 0), v := false, c := parityBelow 16 (s.reg rd) }).advance := rfl

/-- Settles O20: sign extension keeps the signed value, and the Carry Flag of PAR is the parity of all sixteen bits. -/
theorem signExtensionAndParity : Obligations.SignExtensionAndParity := by
  intro rd s
  refine ⟨isWordOf_sex rd, isWordOf_par rd,
    ⟨_, _, _, exec_sex rd s, computed_logicWord s rd _, logicFlagsOf_logicFlags _ _, ?_⟩,
    ⟨_, _, exec_par rd s, tested_setCcr_advance s _, rfl, rfl, decide_eq_true_iff, parityBelow_iff _ 16⟩⟩
  exact BitVec.toInt_signExtend_of_le (by decide)

end Sys2Proof.Machine
end

section
/-! The flags as a number, XGCCR as the S12X_CPU reads it in debug mode, and the two transfers of the flags
(43_transfer.md). -/

namespace Sys2Proof.Machine

/-! ## The flags as a number (R29) -/

/-- The flags appended one by one, the form the library's facts about one more bit speak of. -/
theorem CCR.bits_eq_concat (f : CCR) :
    f.bits = (((BitVec.ofBool f.n).concat f.z).concat f.v).concat f.c := rfl

theorem toNat_bits (f : CCR) : f.bits.toNat = ccrNumber f := by
  rw [CCR.bits_eq_concat, BitVec.toNat_concat, BitVec.toNat_concat, BitVec.toNat_concat, BitVec.toNat_ofBool, ccrNumber]
  omega

@[simp] theorem CCR.ofBits_bits (f : CCR) : CCR.ofBits f.bits = f := by
  simp [CCR.ofBits, CCR.bits_eq_concat]

@[simp] theorem CCR.bits_ofBits : ∀ b : BitVec 4, (CCR.ofBits b).bits = b := by decide

theorem ccrNumber_ofBits (b : BitVec 4) : ccrNumber (CCR.ofBits b) = b.toNat := by
  rw [← toNat_bits, CCR.bits_ofBits]

/-- Four bits widened to a word are its low four bits: nothing of the flags is lost in a register. -/
theorem extractLsb'_setWidth_word (b : BitVec 4) : (b.setWidth 16 : Word).extractLsb' 0 4 = b := by
  rw [← BitVec.setWidth_eq_extractLsb' (by decide), BitVec.setWidth_setWidth_of_le b (by decide), BitVec.setWidth_eq]

/-- The byte of XGCCR on an unsecured device in debug mode (R55, R58). -/
theorem hostByte_xgccr {s : State} (hdebug : s.xgdbg = true) (hunsecured : s.chip.secured = false) :
    hostByte s 0x1D = s.ccr.bits.setWidth 8 := by
  simp [hostByte, isCoreByte, coreByte, hdebug, hunsecured]

/-! ## TFR RD,CCR and TFR CCR,RS (R250, R251) -/

/-- A row of the monadic instructions with its field clear is the word of the instruction that the decoder's arm for its
low byte names. -/
theorem isWordOf_monadicWord {v : Word} {instr : Reg → Instr} (hv : v.extractLsb' 11 5 = 0 ∧ v.extractLsb' 8 3 = 0)
    (hrow : ∀ w : Word, w.extractLsb' 0 8 = v.extractLsb' 0 8 → decodeSystem w = .ok (instr (fieldD w)))
    (hencode : ∀ r, encode (instr r) = v ||| put 8 r.bits) (r : Reg) : isWordOf (v ||| put 8 r.bits) (instr r) :=
  have ⟨hmajor, hfield⟩ := hv
  ⟨decodeWord_monadicWord hmajor hfield hrow r, hencode r⟩

theorem isWordOf_tfrFromCcr : ∀ rd : Reg, isWordOf (0x00F8 ||| put 8 rd.bits) (.tfrFromCcr rd) :=
  isWordOf_monadicWord (by decide) (fun w hw => by rw [decodeSystem, hw]; rfl) (fun _ => rfl)

theorem isWordOf_tfrToCcr : ∀ rs : Reg, isWordOf (0x00F9 ||| put 8 rs.bits) (.tfrToCcr rs) :=
  isWordOf_monadicWord (by decide) (fun w hw => by rw [decodeSystem, hw]; rfl) (fun _ => rfl)

theorem exec_tfrFromCcr (rd : Reg) (s : State) :
    exec (.tfrFromCcr rd) s = .next (s.writeResult rd (s.ccr.bits.setWidth 16) s.ccr) := by
  rw [← advance_setReg]
  rfl

theorem exec_tfrToCcr (rs : Reg) (s : State) :
    exec (.tfrToCcr rs) s = .next (s.setCcr (CCR.ofBits ((s.reg rs).extractLsb' 0 4))).advance := rfl

/-- Settles O28: one writes the number of the flags as a result with the old flags, the other writes only the flags, those
of RS's low four bits. -/
theorem transfersMoveTheFourFlags : Obligations.TransfersMoveTheFourFlags := by
  intro r s
  refine ⟨isWordOf_tfrFromCcr r, isWordOf_tfrToCcr r,
    ⟨_, _, exec_tfrFromCcr r s, computed_writeResult s r _ _, ?value⟩,
    ⟨_, _, exec_tfrToCcr r s, tested_setCcr_advance s _, ?flags⟩⟩
  case value => rw [BitVec.toNat_setWidth_of_le (by decide), toNat_bits]
  case flags => rw [ccrNumber_ofBits, BitVec.extractLsb'_toNat, Nat.shiftRight_zero]

/-! ## Saving and restoring the flags (R252) -/

/-- What TFR RD,CCR leaves in RD, where RD is storage. -/
theorem reg_writeResult_bits {rd : Reg} (hrd : rd ≠ .r0) (s : State) :
    (s.writeResult rd (s.ccr.bits.setWidth 16) s.ccr).reg rd = s.ccr.bits.setWidth 16 := by
  simp [reg_writeResult, hrd]

/-- Settles O29: RD holds the flags' four bits, which TFR CCR,RD reads back whatever the flags are by then, and XGCCR
shows the host the same four bits. -/
theorem flagsSavedByTfrAreRestoredByTfr : Obligations.FlagsSavedByTfrAreRestoredByTfr := by
  intro rd s f hrd
  refine ⟨_, _, exec_tfrFromCcr rd s, exec_tfrToCcr rd _, ?restored, fun hdebug hunsecured => ?host⟩
  case restored =>
    rw [advance_ccr, setCcr_ccr, reg_setCcr, reg_writeResult_bits hrd, extractLsb'_setWidth_word, CCR.ofBits_bits]
  case host =>
    rw [hostByte_xgccr hdebug hunsecured, reg_writeResult_bits hrd, BitVec.toNat_setWidth_of_le (by decide),
      BitVec.toNat_setWidth_of_le (by decide)]

end Sys2Proof.Machine
end

section
/-! The words of the shift instructions, shifts with a fill and rotates bit by bit, the highest one of a word, and the
shifts, rotates and BFFO (45_shift.md). -/

namespace Sys2Proof

/-! ## The words of major opcode 1 (R124, R125, R136) -/

/-- Bits outside RD's field and outside a second field are those of the row's value. -/
theorem extractLsb'_shiftWord (v : Word) (rd : Reg) {n lo : Nat} (b : BitVec n) {start len : Nat}
    (hd : start + len ≤ 8 ∨ 11 ≤ start) (hb : start + len ≤ lo ∨ lo + n ≤ start) :
    (v ||| put 8 rd.bits ||| put lo b).extractLsb' start len = v.extractLsb' start len := by
  rw [BitVec.extractLsb'_or, extractLsb'_monadicWord v rd hd, extractLsb'_put_disjoint b hb]
  simp

/-- A second field below RD's leaves RD as it is. -/
theorem fieldD_shiftWord {v : Word} (hv : v.extractLsb' 8 3 = 0) (rd : Reg) {n lo : Nat} (b : BitVec n)
    (hlo : lo + n ≤ 8) : fieldD (v ||| put 8 rd.bits ||| put lo b) = rd := by
  rw [fieldD, BitVec.extractLsb'_or, BitVec.extractLsb'_or, hv, extractLsb'_put_same rd.bits (by decide),
    extractLsb'_put_disjoint b (.inr hlo)]
  simp

/-- The second field, where the row's value has it clear, reads back. -/
theorem secondField_shiftWord {v : Word} {n lo : Nat} (hv : v.extractLsb' lo n = 0) (rd : Reg) (b : BitVec n)
    (hlo : lo + n ≤ 8) : (v ||| put 8 rd.bits ||| put lo b).extractLsb' lo n = b := by
  rw [BitVec.extractLsb'_or, extractLsb'_monadicWord v rd (.inl hlo), hv, extractLsb'_put_same b (by omega)]
  simp

/-- Major opcode 1 holds the shifts, the rotates and BFFO (R124, R125, R140). -/
theorem decodeWord_of_shift {w : Word} (hmajor : w.extractLsb' 11 5 = 1) : decodeWord w = decodeShift w := by
  rw [decodeWord, hmajor]
  rfl

end Sys2Proof

namespace Sys2Proof.Machine

/-- A row with a 4-bit constant is the word of the instruction that the decoder's arm for bits 3:0 names. -/
theorem isWordOf_imm4Word {v : Word} {instr : Reg → BitVec 4 → Instr}
    (hv : v.extractLsb' 11 5 = 1 ∧ v.extractLsb' 8 3 = 0 ∧ v.extractLsb' 4 4 = 0)
    (hrow : ∀ w : Word, w.extractLsb' 0 4 = v.extractLsb' 0 4 → decodeShift w = .ok (instr (fieldD w) (fieldImm4 w)))
    (hencode : ∀ rd k, encode (instr rd k) = v ||| put 8 rd.bits ||| put 4 k) (rd : Reg) (k : BitVec 4) :
    isWordOf (v ||| put 8 rd.bits ||| put 4 k) (instr rd k) := by
  obtain ⟨hmajor, hd, hk⟩ := hv
  refine ⟨?_, hencode rd k⟩
  rw [decodeWord_of_shift (by rwa [extractLsb'_shiftWord v rd k (by decide) (by decide)]),
    hrow _ (extractLsb'_shiftWord v rd k (by decide) (by decide)), fieldD_shiftWord hd rd k (by decide), fieldImm4,
    secondField_shiftWord hk rd k (by decide)]

/-- A row with two registers is the word of the instruction that the decoder's arm for bits 4:0 names, which it reaches
where bits 3:0 name no constant form. -/
theorem isWordOf_dyadicWord {v : Word} {instr : Reg → Reg → Instr}
    (hv : v.extractLsb' 11 5 = 1 ∧ v.extractLsb' 8 3 = 0 ∧ v.extractLsb' 5 3 = 0)
    (hrow : ∀ w : Word, w.extractLsb' 0 4 = v.extractLsb' 0 4 → w.extractLsb' 0 5 = v.extractLsb' 0 5 →
      decodeShift w = .ok (instr (fieldD w) (fieldS w)))
    (hencode : ∀ rd rs, encode (instr rd rs) = v ||| put 8 rd.bits ||| put 5 rs.bits) (rd rs : Reg) :
    isWordOf (v ||| put 8 rd.bits ||| put 5 rs.bits) (instr rd rs) := by
  obtain ⟨hmajor, hd, hs⟩ := hv
  refine ⟨?_, hencode rd rs⟩
  rw [decodeWord_of_shift (by rwa [extractLsb'_shiftWord v rd rs.bits (by decide) (by decide)]),
    hrow _ (extractLsb'_shiftWord v rd rs.bits (by decide) (by decide))
      (extractLsb'_shiftWord v rd rs.bits (by decide) (by decide)),
    fieldD_shiftWord hd rd rs.bits (by decide), fieldS, secondField_shiftWord hs rd rs.bits (by decide), Reg.ofBits_bits]

theorem isWordOf_asrImm : ∀ (rd : Reg) (k : BitVec 4), isWordOf (0x0809 ||| put 8 rd.bits ||| put 4 k) (.asrImm rd k) :=
  isWordOf_imm4Word (by decide) (fun w hw => by rw [decodeShift, hw]; rfl) (fun _ _ => rfl)

theorem isWordOf_cslImm : ∀ (rd : Reg) (k : BitVec 4), isWordOf (0x080A ||| put 8 rd.bits ||| put 4 k) (.cslImm rd k) :=
  isWordOf_imm4Word (by decide) (fun w hw => by rw [decodeShift, hw]; rfl) (fun _ _ => rfl)

theorem isWordOf_csrImm : ∀ (rd : Reg) (k : BitVec 4), isWordOf (0x080B ||| put 8 rd.bits ||| put 4 k) (.csrImm rd k) :=
  isWordOf_imm4Word (by decide) (fun w hw => by rw [decodeShift, hw]; rfl) (fun _ _ => rfl)

theorem isWordOf_lslImm : ∀ (rd : Reg) (k : BitVec 4), isWordOf (0x080C ||| put 8 rd.bits ||| put 4 k) (.lslImm rd k) :=
  isWordOf_imm4Word (by decide) (fun w hw => by rw [decodeShift, hw]; rfl) (fun _ _ => rfl)

theorem isWordOf_lsrImm : ∀ (rd : Reg) (k : BitVec 4), isWordOf (0x080D ||| put 8 rd.bits ||| put 4 k) (.lsrImm rd k) :=
  isWordOf_imm4Word (by decide) (fun w hw => by rw [decodeShift, hw]; rfl) (fun _ _ => rfl)

theorem isWordOf_rolImm : ∀ (rd : Reg) (k : BitVec 4), isWordOf (0x080E ||| put 8 rd.bits ||| put 4 k) (.rolImm rd k) :=
  isWordOf_imm4Word (by decide) (fun w hw => by rw [decodeShift, hw]; rfl) (fun _ _ => rfl)

theorem isWordOf_rorImm : ∀ (rd : Reg) (k : BitVec 4), isWordOf (0x080F ||| put 8 rd.bits ||| put 4 k) (.rorImm rd k) :=
  isWordOf_imm4Word (by decide) (fun w hw => by rw [decodeShift, hw]; rfl) (fun _ _ => rfl)

theorem isWordOf_bffo : ∀ rd rs : Reg, isWordOf (0x0810 ||| put 8 rd.bits ||| put 5 rs.bits) (.bffo rd rs) :=
  isWordOf_dyadicWord (by decide) (fun w hlow hop => by rw [decodeShift, hlow, hop]; rfl) (fun _ _ => rfl)

theorem isWordOf_asrReg : ∀ rd rs : Reg, isWordOf (0x0811 ||| put 8 rd.bits ||| put 5 rs.bits) (.asrReg rd rs) :=
  isWordOf_dyadicWord (by decide) (fun w hlow hop => by rw [decodeShift, hlow, hop]; rfl) (fun _ _ => rfl)

theorem isWordOf_cslReg : ∀ rd rs : Reg, isWordOf (0x0812 ||| put 8 rd.bits ||| put 5 rs.bits) (.cslReg rd rs) :=
  isWordOf_dyadicWord (by decide) (fun w hlow hop => by rw [decodeShift, hlow, hop]; rfl) (fun _ _ => rfl)

theorem isWordOf_csrReg : ∀ rd rs : Reg, isWordOf (0x0813 ||| put 8 rd.bits ||| put 5 rs.bits) (.csrReg rd rs) :=
  isWordOf_dyadicWord (by decide) (fun w hlow hop => by rw [decodeShift, hlow, hop]; rfl) (fun _ _ => rfl)

theorem isWordOf_lslReg : ∀ rd rs : Reg, isWordOf (0x0814 ||| put 8 rd.bits ||| put 5 rs.bits) (.lslReg rd rs) :=
  isWordOf_dyadicWord (by decide) (fun w hlow hop => by rw [decodeShift, hlow, hop]; rfl) (fun _ _ => rfl)

theorem isWordOf_lsrReg : ∀ rd rs : Reg, isWordOf (0x0815 ||| put 8 rd.bits ||| put 5 rs.bits) (.lsrReg rd rs) :=
  isWordOf_dyadicWord (by decide) (fun w hlow hop => by rw [decodeShift, hlow, hop]; rfl) (fun _ _ => rfl)

theorem isWordOf_rolReg : ∀ rd rs : Reg, isWordOf (0x0816 ||| put 8 rd.bits ||| put 5 rs.bits) (.rolReg rd rs) :=
  isWordOf_dyadicWord (by decide) (fun w hlow hop => by rw [decodeShift, hlow, hop]; rfl) (fun _ _ => rfl)

theorem isWordOf_rorReg : ∀ rd rs : Reg, isWordOf (0x0817 ||| put 8 rd.bits ||| put 5 rs.bits) (.rorReg rd rs) :=
  isWordOf_dyadicWord (by decide) (fun w hlow hop => by rw [decodeShift, hlow, hop]; rfl) (fun _ _ => rfl)

/-! ## The highest one of a word and BFFO (R300) -/

/-- The scan from the top finds nothing exactly where there is no one. -/
theorem firstOneBelow_eq_none_iff (v : Word) (k : Nat) :
    firstOneBelow k v = none ↔ ∀ i, i < k → v.getLsbD i = false := by
  induction k with
  | zero => simp [firstOneBelow]
  | succ k ih =>
    rw [firstOneBelow, Nat.forall_lt_succ_right]
    cases v.getLsbD k with
    | false => simpa using ih
    | true => simp

/-- What the scan finds is a one, and above it there is none. -/
theorem firstOneBelow_eq_some {v : Word} {k p : Nat} (h : firstOneBelow k v = some p) :
    p < k ∧ v.getLsbD p = true ∧ ∀ i, p < i → i < k → v.getLsbD i = false := by
  induction k with
  | zero => simp [firstOneBelow] at h
  | succ k ih =>
    rw [firstOneBelow] at h
    split at h
    next hone =>
      obtain rfl : k = p := by simpa using h
      exact ⟨by omega, hone, fun i hlo hhi => by omega⟩
    next hzero =>
      obtain ⟨hp, hone, habove⟩ := ih h
      refine ⟨by omega, hone, fun i hlo hhi => ?_⟩
      rcases Nat.lt_succ_iff_lt_or_eq.mp hhi with hlt | rfl
      · exact habove i hlo hlt
      · simpa using hzero

theorem firstOneBelow_word_eq_none_iff (v : Word) : firstOneBelow 16 v = none ↔ v = 0 := by
  rw [firstOneBelow_eq_none_iff]
  constructor
  · intro hclear
    exact BitVec.eq_of_getLsbD_eq fun i hi => by simpa using hclear i hi
  · rintro rfl i -
    exact BitVec.getLsbD_zero

/-- The word that BFFO writes. -/
def highestOne (v : Word) : Word := BitVec.ofNat 16 ((firstOneBelow 16 v).getD 0)

theorem highestOne_zero : highestOne 0 = 0 := by
  rw [highestOne, (firstOneBelow_word_eq_none_iff 0).mpr rfl]
  rfl

theorem highestOne_of_ne_zero {v : Word} (hv : v ≠ 0) :
    (highestOne v).toNat < 16 ∧ v.getLsbD (highestOne v).toNat = true ∧
      ∀ i, (highestOne v).toNat < i → v.getLsbD i = false := by
  obtain ⟨p, hp⟩ := Option.ne_none_iff_exists'.mp (mt (firstOneBelow_word_eq_none_iff v).mp hv)
  obtain ⟨hlt, hone, habove⟩ := firstOneBelow_eq_some hp
  have hresult : (highestOne v).toNat = p := by
    rw [highestOne, hp, Option.getD_some, BitVec.toNat_ofNat, Nat.mod_eq_of_lt (by omega)]
  rw [hresult]
  refine ⟨hlt, hone, fun i hi => ?_⟩
  rcases Nat.lt_or_ge i 16 with hinside | houtside
  · exact habove i hi hinside
  · exact BitVec.getLsbD_of_ge v i houtside

theorem exec_bffo (rd rs : Reg) (s : State) :
    exec (.bffo rd rs) s = .next (s.writeResult rd (highestOne (s.reg rs))
      { n := false, z := decide (highestOne (s.reg rs) = 0), v := false,
        c := (firstOneBelow 16 (s.reg rs)).isNone }) := rfl

/-- Settles O21: the scan from bit 15 down stops at the highest one, and finds none only in the word 0. -/
theorem bffoFindsTheHighestOne : Obligations.BffoFindsTheHighestOne := by
  intro rd rs s
  refine ⟨isWordOf_bffo rd rs, _, _, _, exec_bffo rd rs s, computed_writeResult s rd _ _, rfl, rfl,
    decide_eq_true_iff, ?carry, fun hzero => ?none, highestOne_of_ne_zero⟩
  case carry => rw [Option.isNone_iff_eq_none, firstOneBelow_word_eq_none_iff]
  case none => rw [hzero, highestOne_zero]

/-! ## Shifts with a fill, bit by bit (R282) -/

theorem msb_eq_getLsbD_15 (v : Word) : v.msb = v.getLsbD 15 := BitVec.msb_eq_getLsbD_last v

theorem getLsbD_shiftLeftFill (v : Word) (n : Nat) (fill : Bool) {i : Nat} (hi : i < 16) :
    (shiftLeftFill v n fill).getLsbD i = if i < n then fill else v.getLsbD (i - n) := by
  have hfill : (if fill then BitVec.ofNat 16 (2 ^ n - 1) else 0 : Word).getLsbD i = (decide (i < n) && fill) := by
    cases fill with
    | false => simp
    | true => rw [if_pos rfl, BitVec.getLsbD_ofNat, Nat.testBit_two_pow_sub_one]; simp [hi]
  rw [shiftLeftFill, BitVec.getLsbD_or, BitVec.getLsbD_shiftLeft, hfill]
  by_cases hlow : i < n <;> simp [hlow, hi]

theorem getLsbD_shiftRightFill (v : Word) (n : Nat) (fill : Bool) {i : Nat} (hi : i < 16) :
    (shiftRightFill v n fill).getLsbD i = if i + n < 16 then v.getLsbD (i + n) else fill := by
  have hfill : (if fill then 0xFFFF#16 <<< (16 - n) else 0 : Word).getLsbD i = (!decide (i + n < 16) && fill) := by
    cases fill with
    | false => simp
    | true =>
      have hones : 0xFFFF#16 = BitVec.allOnes 16 := rfl
      have hplace : i < 16 - n ↔ i + n < 16 := by omega
      have hinside : i - (16 - n) < 16 := by omega
      rw [if_pos rfl, hones, BitVec.getLsbD_shiftLeft, BitVec.getLsbD_allOnes]
      simp [hi, hplace, hinside]
  rw [shiftRightFill, BitVec.getLsbD_or, BitVec.getLsbD_ushiftRight, hfill, Nat.add_comm n i]
  by_cases hlow : i + n < 16
  · simp [hlow]
  · simp [hlow, BitVec.getLsbD_of_ge v (i + n) (by omega)]

theorem shiftFlags_z (v r : Word) (c : Bool) : (shiftFlags v r c).z = true ↔ r = 0 := decide_eq_true_iff

theorem shiftFlags_n (v r : Word) (c : Bool) : (shiftFlags v r c).n = r.getLsbD 15 := msb_eq_getLsbD_15 r

theorem shiftFlags_v (v r : Word) (c : Bool) : (shiftFlags v r c).v = true ↔ v.getLsbD 15 ≠ r.getLsbD 15 := by
  rw [shiftFlags, bne_iff_ne, msb_eq_getLsbD_15, msb_eq_getLsbD_15]

theorem leftShift_shiftLeftFill (v : Word) (n : Nat) (fill : Bool) (old : CCR) :
    LeftShift v n fill old (shiftLeftFill v n fill) (shiftFlags v (shiftLeftFill v n fill) (carryLeft v n old.c)) where
  low i hi hlow := by rw [getLsbD_shiftLeftFill v n fill hi, if_pos hlow]
  high i hi hhigh := by rw [getLsbD_shiftLeftFill v n fill hi, if_neg (by omega)]
  sign := shiftFlags_n _ _ _
  zero := shiftFlags_z _ _ _
  overflow := shiftFlags_v _ _ _
  carry := rfl

theorem rightShift_shiftRightFill (v : Word) (n : Nat) (fill : Bool) (old : CCR) :
    RightShift v n fill old (shiftRightFill v n fill)
      (shiftFlags v (shiftRightFill v n fill) (carryRight v n old.c)) where
  low i hlow := by rw [getLsbD_shiftRightFill v n fill (by omega), if_pos hlow]
  high i hi hhigh := by rw [getLsbD_shiftRightFill v n fill hi, if_neg (by omega)]
  sign := shiftFlags_n _ _ _
  zero := shiftFlags_z _ _ _
  overflow := shiftFlags_v _ _ _
  carry := rfl

/-! ## The counts (R281, R294) -/

theorem immCount_eq_immediateCount (k : BitVec 4) : immCount k = immediateCount k := by
  have hzero : k = 0 ↔ k.toNat = 0 := BitVec.toNat_eq
  simp only [immCount, immediateCount, hzero]

theorem regCount_eq_min (v : Word) : regCount v = min v.toNat 16 := by
  unfold regCount
  split <;> omega

theorem rotateCount_eq_mod (v : Word) : rotateCount v = v.toNat % 16 := by
  simp [rotateCount]

/-! ## LSL and CSL (R286, R287, R290, R291) -/

/-- An instruction that ends in `shiftLeft` shifts RD left with its count and its fill bit, and changes nothing else. -/
theorem leftShift_of_exec {instr : Instr} {fill : Bool} {rd : Reg} {n : Nat} {s : State}
    (hexec : exec instr s = .next (shiftLeft fill rd n s)) :
    ∃ t r f, exec instr s = .next t ∧ s.computed t rd r f ∧ LeftShift (s.reg rd) n fill s.ccr r f :=
  ⟨_, _, _, hexec, computed_writeResult s rd _ _, leftShift_shiftLeftFill _ _ _ _⟩

theorem exec_lslImm (rd : Reg) (k : BitVec 4) (s : State) :
    exec (.lslImm rd k) s = .next (shiftLeft false rd (immCount k) s) := rfl

theorem exec_lslReg (rd rs : Reg) (s : State) :
    exec (.lslReg rd rs) s = .next (shiftLeft false rd (regCount (s.reg rs)) s) := rfl

theorem exec_cslImm (rd : Reg) (k : BitVec 4) (s : State) :
    exec (.cslImm rd k) s = .next (shiftLeft s.ccr.c rd (immCount k) s) := rfl

theorem exec_cslReg (rd rs : Reg) (s : State) :
    exec (.cslReg rd rs) s = .next (shiftLeft s.ccr.c rd (regCount (s.reg rs)) s) := rfl

/-- Settles O22: all four are one left shift, with the constant's or RS's count and with 0 or the old Carry Flag as fill. -/
theorem leftShiftsInBothForms : Obligations.LeftShiftsInBothForms := by
  intro rd rs k s
  rw [← immCount_eq_immediateCount, ← regCount_eq_min]
  exact ⟨isWordOf_lslImm rd k, isWordOf_lslReg rd rs, isWordOf_cslImm rd k, isWordOf_cslReg rd rs,
    leftShift_of_exec (exec_lslImm rd k s), leftShift_of_exec (exec_lslReg rd rs s),
    leftShift_of_exec (exec_cslImm rd k s), leftShift_of_exec (exec_cslReg rd rs s)⟩

/-! ## LSR, CSR and ASR (R284, R285, R288, R289, R292, R293) -/

/-- The same for `shiftRight`. -/
theorem rightShift_of_exec {instr : Instr} {fill : Bool} {rd : Reg} {n : Nat} {s : State}
    (hexec : exec instr s = .next (shiftRight fill rd n s)) :
    ∃ t r f, exec instr s = .next t ∧ s.computed t rd r f ∧ RightShift (s.reg rd) n fill s.ccr r f :=
  ⟨_, _, _, hexec, computed_writeResult s rd _ _, rightShift_shiftRightFill _ _ _ _⟩

theorem exec_lsrImm (rd : Reg) (k : BitVec 4) (s : State) :
    exec (.lsrImm rd k) s = .next (shiftRight false rd (immCount k) s) := rfl

theorem exec_lsrReg (rd rs : Reg) (s : State) :
    exec (.lsrReg rd rs) s = .next (shiftRight false rd (regCount (s.reg rs)) s) := rfl

theorem exec_csrImm (rd : Reg) (k : BitVec 4) (s : State) :
    exec (.csrImm rd k) s = .next (shiftRight s.ccr.c rd (immCount k) s) := rfl

theorem exec_csrReg (rd rs : Reg) (s : State) :
    exec (.csrReg rd rs) s = .next (shiftRight s.ccr.c rd (regCount (s.reg rs)) s) := rfl

theorem exec_asrImm (rd : Reg) (k : BitVec 4) (s : State) :
    exec (.asrImm rd k) s = .next (shiftRight (s.reg rd).msb rd (immCount k) s) := rfl

theorem exec_asrReg (rd rs : Reg) (s : State) :
    exec (.asrReg rd rs) s = .next (shiftRight (s.reg rd).msb rd (regCount (s.reg rs)) s) := rfl

/-- Settles O23: all six are one right shift; the fill is 0, the old Carry Flag, or for ASR the sign of RD. -/
theorem rightShiftsInBothForms : Obligations.RightShiftsInBothForms := by
  intro rd rs k s
  rw [← immCount_eq_immediateCount, ← regCount_eq_min, ← msb_eq_getLsbD_15]
  exact ⟨isWordOf_lsrImm rd k, isWordOf_lsrReg rd rs, isWordOf_csrImm rd k, isWordOf_csrReg rd rs, isWordOf_asrImm rd k,
    isWordOf_asrReg rd rs, rightShift_of_exec (exec_lsrImm rd k s), rightShift_of_exec (exec_lsrReg rd rs s),
    rightShift_of_exec (exec_csrImm rd k s), rightShift_of_exec (exec_csrReg rd rs s),
    rightShift_of_exec (exec_asrImm rd k s), rightShift_of_exec (exec_asrReg rd rs s)⟩

/-! ## ROL and ROR (R294 to R298) -/

/-- Of the two shifted copies one has the bit and the other has a zero there: the bit wraps around or it does not. -/
theorem getLsbD_rotateLeft (v : Word) {n i : Nat} (hn : n < 16) (hi : i < 16) :
    (rotateLeft v n).getLsbD ((i + n) % 16) = v.getLsbD i := by
  rw [rotateLeft, BitVec.getLsbD_or, BitVec.getLsbD_shiftLeft, BitVec.getLsbD_ushiftRight]
  rcases Nat.lt_or_ge (i + n) 16 with hstays | hwraps
  · have hother : 16 ≤ 16 - n + (i + n) := by omega
    rw [Nat.mod_eq_of_lt hstays, Nat.add_sub_cancel, BitVec.getLsbD_of_ge v _ hother]
    simp [hstays]
  · have hplace : (i + n) % 16 = i + n - 16 := by omega
    have hlow : i + n - 16 < n := by omega
    have hsource : 16 - n + (i + n - 16) = i := by omega
    simp [hplace, hlow, hsource]

/-- The same for the other direction. -/
theorem getLsbD_rotateRight (v : Word) {n i : Nat} (hn : n < 16) (hi : i < 16) :
    (rotateRight v n).getLsbD i = v.getLsbD ((i + n) % 16) := by
  rw [rotateRight, BitVec.getLsbD_or, BitVec.getLsbD_shiftLeft, BitVec.getLsbD_ushiftRight, Nat.add_comm n i]
  rcases Nat.lt_or_ge (i + n) 16 with hstays | hwraps
  · have hlow : i < 16 - n := by omega
    simp [Nat.mod_eq_of_lt hstays, hlow]
  · have hhigh : ¬ i < 16 - n := by omega
    have hsource : i - (16 - n) = (i + n) % 16 := by omega
    rw [BitVec.getLsbD_of_ge v _ hwraps, hsource]
    simp [hi, hhigh]

/-- A rotate writes its result with the flags of R294 and changes nothing else. -/
theorem computed_rotated (s : State) (rd : Reg) (r : Word) : s.computed (rotated rd r s) rd r (logicFlags r s.ccr) :=
  computed_writeResult s rd r _

theorem exec_rolImm (rd : Reg) (k : BitVec 4) (s : State) :
    exec (.rolImm rd k) s = .next (rotated rd (rotateLeft (s.reg rd) k.toNat) s) := rfl

theorem exec_rolReg (rd rs : Reg) (s : State) :
    exec (.rolReg rd rs) s = .next (rotated rd (rotateLeft (s.reg rd) (rotateCount (s.reg rs))) s) := rfl

theorem exec_rorImm (rd : Reg) (k : BitVec 4) (s : State) :
    exec (.rorImm rd k) s = .next (rotated rd (rotateRight (s.reg rd) k.toNat) s) := rfl

theorem exec_rorReg (rd rs : Reg) (s : State) :
    exec (.rorReg rd rs) s = .next (rotated rd (rotateRight (s.reg rd) (rotateCount (s.reg rs))) s) := rfl

/-- Settles O24: each writes the rotated word with the logic flags of it; both counts are below 16, so every bit has one
place to go. -/
theorem rotatesInBothForms : Obligations.RotatesInBothForms := by
  intro rd rs k s
  have hreg : (s.reg rs).toNat % 16 < 16 := Nat.mod_lt _ (by decide)
  rw [← rotateCount_eq_mod] at hreg ⊢
  exact ⟨isWordOf_rolImm rd k, isWordOf_rolReg rd rs, isWordOf_rorImm rd k, isWordOf_rorReg rd rs,
    ⟨_, _, _, exec_rolImm rd k s, computed_rotated s rd _, logicFlagsOf_logicFlags _ _,
      fun _ => getLsbD_rotateLeft _ k.isLt⟩,
    ⟨_, _, _, exec_rolReg rd rs s, computed_rotated s rd _, logicFlagsOf_logicFlags _ _,
      fun _ => getLsbD_rotateLeft _ hreg⟩,
    ⟨_, _, _, exec_rorImm rd k s, computed_rotated s rd _, logicFlagsOf_logicFlags _ _,
      fun _ => getLsbD_rotateRight _ k.isLt⟩,
    ⟨_, _, _, exec_rorReg rd rs s, computed_rotated s rd _, logicFlagsOf_logicFlags _ _,
      fun _ => getLsbD_rotateRight _ hreg⟩⟩

end Sys2Proof.Machine
end

section
/-! The words of the bit-field instructions, the field descriptor as arithmetic, a field's bits in a word, and BFEXT, BFINS,
BFINSI and BFINSX (46_bitfield.md). -/

namespace Sys2Proof

/-! ## The words of the bit-field instructions (R130, R136) -/

/-- Major opcodes 12 to 15 hold the indexed loads and stores and the bit-field instructions (R130, R140). -/
theorem decodeWord_of_indexed {w : Word} (hmajor : 12 ≤ (w.extractLsb' 11 5).toNat ∧ (w.extractLsb' 11 5).toNat ≤ 15) :
    decodeWord w = .ok (decodeIndexed w) := by
  have hcases : (w.extractLsb' 11 5).toNat = 12 ∨ (w.extractLsb' 11 5).toNat = 13 ∨ (w.extractLsb' 11 5).toNat = 14 ∨
      (w.extractLsb' 11 5).toNat = 15 := by omega
  rcases hcases with h | h | h | h <;> (rw [decodeWord, h]; rfl)

end Sys2Proof

namespace Sys2Proof.Machine

/-- A row with its fields clear is the word of the instruction that the decoder's arm for bits 1:0 and 12:11 names. -/
theorem isWordOf_indexedWord {v : Word} {instr : Reg → Reg → Reg → Instr}
    (hmajor : 12 ≤ (v.extractLsb' 11 5).toNat ∧ (v.extractLsb' 11 5).toNat ≤ 15)
    (hfields : v.extractLsb' 8 3 = 0 ∧ v.extractLsb' 5 3 = 0 ∧ v.extractLsb' 2 3 = 0)
    (hrow : ∀ w : Word, w.extractLsb' 0 2 = v.extractLsb' 0 2 → w.extractLsb' 11 2 = v.extractLsb' 11 2 →
      decodeIndexed w = instr (fieldD w) (fieldS w) (fieldT w))
    (hencode : ∀ rd rs1 rs2, encode (instr rd rs1 rs2) = v ||| put 8 rd.bits ||| put 5 rs1.bits ||| put 2 rs2.bits)
    (rd rs1 rs2 : Reg) :
    isWordOf (v ||| put 8 rd.bits ||| put 5 rs1.bits ||| put 2 rs2.bits) (instr rd rs1 rs2) := by
  obtain ⟨hd, hs, ht⟩ := hfields
  refine ⟨?_, hencode rd rs1 rs2⟩
  rw [decodeWord_of_indexed (by rwa [opcode_triadicWord]),
    hrow _ (selector_triadicWord v rd rs1 rs2) (opcode_triadicWord v rd rs1 rs2 2), fieldD_triadicWord hd,
    fieldS_triadicWord hs, fieldT_triadicWord ht]

theorem isWordOf_bfext : ∀ rd rs1 rs2 : Reg,
    isWordOf (0x6003 ||| put 8 rd.bits ||| put 5 rs1.bits ||| put 2 rs2.bits) (.bfext rd rs1 rs2) :=
  isWordOf_indexedWord (by decide) (by decide) (fun w hsel hop => by rw [decodeIndexed, hsel, hop]; rfl) (fun _ _ _ => rfl)

theorem isWordOf_bfins : ∀ rd rs1 rs2 : Reg,
    isWordOf (0x6803 ||| put 8 rd.bits ||| put 5 rs1.bits ||| put 2 rs2.bits) (.bfins rd rs1 rs2) :=
  isWordOf_indexedWord (by decide) (by decide) (fun w hsel hop => by rw [decodeIndexed, hsel, hop]; rfl) (fun _ _ _ => rfl)

theorem isWordOf_bfinsi : ∀ rd rs1 rs2 : Reg,
    isWordOf (0x7003 ||| put 8 rd.bits ||| put 5 rs1.bits ||| put 2 rs2.bits) (.bfinsi rd rs1 rs2) :=
  isWordOf_indexedWord (by decide) (by decide) (fun w hsel hop => by rw [decodeIndexed, hsel, hop]; rfl) (fun _ _ _ => rfl)

theorem isWordOf_bfinsx : ∀ rd rs1 rs2 : Reg,
    isWordOf (0x7803 ||| put 8 rd.bits ||| put 5 rs1.bits ||| put 2 rs2.bits) (.bfinsx rd rs1 rs2) :=
  isWordOf_indexedWord (by decide) (by decide) (fun w hsel hop => by rw [decodeIndexed, hsel, hop]; rfl) (fun _ _ _ => rfl)

/-! ## The field descriptor and its masks (R311) -/

theorem fieldOffset_eq_mod (d : Word) : fieldOffset d = d.toNat % 16 := by
  simp [fieldOffset]

theorem fieldWidth_eq_div_mod (d : Word) : fieldWidth d = d.toNat / 16 % 16 := by
  simp [fieldWidth, Nat.shiftRight_eq_div_pow]

theorem fieldWidth_lt (d : Word) : fieldWidth d < 16 := (d.extractLsb' 4 4).isLt

theorem getLsbD_fieldOnes (d : Word) {i : Nat} (hi : i < 16) :
    (fieldOnes d).getLsbD i = decide (i ≤ fieldWidth d) := by
  rw [fieldOnes, BitVec.getLsbD_ofNat, Nat.testBit_two_pow_sub_one]
  simp [hi]

/-- Inside the field the ones let every bit through. -/
theorem getLsbD_and_fieldOnes {d : Word} {j : Nat} (hj : j ≤ fieldWidth d) (v : Word) :
    (v &&& fieldOnes d).getLsbD j = v.getLsbD j := by
  have hinside : j < 16 := hj.trans_lt (fieldWidth_lt d)
  simp [getLsbD_fieldOnes d hinside, hj]

theorem getLsbD_fieldMask (d : Word) {i : Nat} (hi : i < 16) :
    (fieldMask d).getLsbD i = decide (fieldOffset d ≤ i ∧ i ≤ fieldOffset d + fieldWidth d) := by
  have hinside : i - fieldOffset d < 16 := by omega
  rw [fieldMask, BitVec.getLsbD_shiftLeft, getLsbD_fieldOnes d hinside, decide_eq_true hi, Bool.true_and,
    ← decide_not, ← Bool.decide_and, decide_eq_decide]
  omega

/-- Under the mask stand the bits of `f` moved up to the field, elsewhere the old ones. -/
theorem getLsbD_insertField (old f d : Word) {i : Nat} (hi : i < 16) :
    (insertField old f d).getLsbD i =
      if fieldOffset d ≤ i ∧ i ≤ fieldOffset d + fieldWidth d then f.getLsbD (i - fieldOffset d) else old.getLsbD i := by
  rw [insertField, BitVec.getLsbD_or, BitVec.getLsbD_and, BitVec.getLsbD_and, BitVec.getLsbD_not, getLsbD_fieldMask d hi,
    BitVec.getLsbD_shiftLeft]
  split
  next hfield =>
    obtain ⟨hlow, hhigh⟩ := hfield
    simp [hlow, hhigh, hi, Nat.not_lt.mpr hlow]
  next houtside => simp [houtside, hi]

/-! ## BFEXT (R314) -/

/-- A bit-field instruction writes its word with the flags of R313 and changes nothing else. -/
theorem computed_fieldResult (s : State) (rd : Reg) (r : Word) :
    s.computed (fieldResult rd r s) rd r (logicFlags r s.ccr) :=
  computed_writeResult s rd r _

theorem exec_bfext (rd rs1 rs2 : Reg) (s : State) :
    exec (.bfext rd rs1 rs2) s = .next (fieldResult rd
      ((s.reg rs1 >>> fieldOffset (s.reg rs2)) &&& fieldOnes (s.reg rs2)) s) := rfl

/-- Settles O26: the shift aligns the field at bit 0, and the ones of the field's width clear what stands above it. -/
theorem bfextExtractsTheField : Obligations.BfextExtractsTheField := by
  intro rd rs1 rs2 s
  refine ⟨isWordOf_bfext rd rs1 rs2, _, _, _, exec_bfext rd rs1 rs2 s, computed_fieldResult s rd _,
    logicFlagsOf_logicFlags _ _, fun i hi => ?_⟩
  rw [← fieldOffset_eq_mod, ← fieldWidth_eq_div_mod]
  split
  next hfield => rw [getLsbD_and_fieldOnes hfield, BitVec.getLsbD_ushiftRight]
  next habove => rw [BitVec.getLsbD_and, getLsbD_fieldOnes _ hi, decide_eq_false habove, Bool.and_false]

/-! ## BFINS, BFINSI and BFINSX (R315 to R317) -/

/-- An instruction that inserts a field made bit by bit from RS1's low bits and the field's old bits does to the field of
RD what `op` does to the two bits, with the logic flags of the word, and keeps the rest of RD and all else. -/
theorem insertField_bitByBit {instr : Instr} {s : State} {rd rs1 rs2 : Reg} {field : Word}
    (op : Bool → Bool → Bool)
    (hexec : exec instr s = .next (fieldResult rd (insertField (s.reg rd) field (s.reg rs2)) s))
    (hbit : ∀ j, j ≤ fieldWidth (s.reg rs2) →
      field.getLsbD j = op ((s.reg rs1).getLsbD j) ((s.reg rd).getLsbD (fieldOffset (s.reg rs2) + j))) :
    ∃ t r f, exec instr s = .next t ∧ s.computed t rd r f ∧ LogicFlagsOf s.ccr r f ∧
      ∀ i o w, o = (s.reg rs2).toNat % 16 → w = (s.reg rs2).toNat / 16 % 16 → i < 16 →
        r.getLsbD i = if o ≤ i ∧ i ≤ o + w then op ((s.reg rs1).getLsbD (i - o)) ((s.reg rd).getLsbD i)
          else (s.reg rd).getLsbD i := by
  refine ⟨_, _, _, hexec, computed_fieldResult s rd _, logicFlagsOf_logicFlags _ _, ?_⟩
  rintro i o w rfl rfl hi
  rw [← fieldOffset_eq_mod, ← fieldWidth_eq_div_mod, getLsbD_insertField _ _ _ hi]
  refine if_ctx_congr Iff.rfl (fun ⟨hlow, hhigh⟩ => ?_) (fun _ => rfl)
  rw [hbit _ (Nat.sub_le_iff_le_add'.mpr hhigh), Nat.add_sub_cancel' hlow]

theorem exec_bfins (rd rs1 rs2 : Reg) (s : State) :
    exec (.bfins rd rs1 rs2) s = .next (fieldResult rd
      (insertField (s.reg rd) (s.reg rs1 &&& fieldOnes (s.reg rs2)) (s.reg rs2)) s) := rfl

theorem exec_bfinsi (rd rs1 rs2 : Reg) (s : State) :
    exec (.bfinsi rd rs1 rs2) s = .next (fieldResult rd
      (insertField (s.reg rd) (~~~(s.reg rs1) &&& fieldOnes (s.reg rs2)) (s.reg rs2)) s) := rfl

/-- The word whose field BFINSX inserts: the XNOR of RS1's low bits with the old field, both cut to the field's width. -/
def xnorField (v old d : Word) : Word :=
  ~~~((v &&& fieldOnes d) ^^^ ((old >>> fieldOffset d) &&& fieldOnes d)) &&& fieldOnes d

theorem exec_bfinsx (rd rs1 rs2 : Reg) (s : State) :
    exec (.bfinsx rd rs1 rs2) s = .next (fieldResult rd
      (insertField (s.reg rd) (xnorField (s.reg rs1) (s.reg rd) (s.reg rs2)) (s.reg rs2)) s) := rfl

theorem getLsbD_not_and_fieldOnes {d : Word} {j : Nat} (hj : j ≤ fieldWidth d) (v : Word) :
    (~~~v &&& fieldOnes d).getLsbD j = !v.getLsbD j := by
  have hinside : j < 16 := hj.trans_lt (fieldWidth_lt d)
  rw [getLsbD_and_fieldOnes hj, BitVec.getLsbD_not, decide_eq_true hinside, Bool.true_and]

theorem getLsbD_xnorField {d : Word} {j : Nat} (hj : j ≤ fieldWidth d) (v old : Word) :
    (xnorField v old d).getLsbD j = (v.getLsbD j == old.getLsbD (fieldOffset d + j)) := by
  have hinside : j < 16 := hj.trans_lt (fieldWidth_lt d)
  rw [xnorField, getLsbD_and_fieldOnes hj, getLsbD_not_xor _ _ hinside, getLsbD_and_fieldOnes hj, getLsbD_and_fieldOnes hj,
    BitVec.getLsbD_ushiftRight]

/-- Settles O27: all three are one insertion, of RS1's low bits, of their inverses, or of their XNOR with the old field. -/
theorem fieldInsertsChangeTheFieldOnly : Obligations.FieldInsertsChangeTheFieldOnly := by
  intro rd rs1 rs2 s
  exact ⟨isWordOf_bfins rd rs1 rs2, isWordOf_bfinsi rd rs1 rs2, isWordOf_bfinsx rd rs1 rs2,
    insertField_bitByBit (fun new _ => new) (exec_bfins rd rs1 rs2 s) fun _ hj => getLsbD_and_fieldOnes hj _,
    insertField_bitByBit (fun new _ => !new) (exec_bfinsi rd rs1 rs2 s) fun _ hj => getLsbD_not_and_fieldOnes hj _,
    insertField_bitByBit (· == ·) (exec_bfinsx rd rs1 rs2 s) fun _ hj => getLsbD_xnorField hj _ _⟩

end Sys2Proof.Machine
end

section
/-! The words of the instructions with a 3-bit constant and of the special instructions, the implemented channels, and NOP,
BRK, SSEM, CSEM and SIF (47_special.md). -/

namespace Sys2Proof

/-! ## The words of the instructions with a 3-bit constant (R122, R136) -/

theorem Reg.bits_ofBits : ∀ b : BitVec 3, (Reg.ofBits b).bits = b := by decide

/-- IMM3 stands where RD stands (R133, R134). -/
theorem bits_fieldD (w : Word) : (fieldD w).bits = fieldImm3 w := Reg.bits_ofBits _

/-- A register's number is the low bits of the word that names it. -/
theorem ofNat_toNat_mod_eight (v : Word) : BitVec.ofNat 3 (v.toNat % 8) = v.extractLsb' 0 3 := by
  apply BitVec.eq_of_toNat_eq
  simp

end Sys2Proof

namespace Sys2Proof.Machine

/-- A row with a 3-bit constant is a monadic row whose register has that number. -/
theorem isWordOf_imm3Word {v : Word} {instr : BitVec 3 → Instr} (hv : v.extractLsb' 11 5 = 0 ∧ v.extractLsb' 8 3 = 0)
    (hrow : ∀ w : Word, w.extractLsb' 0 8 = v.extractLsb' 0 8 → decodeSystem w = .ok (instr (fieldImm3 w)))
    (hencode : ∀ k, encode (instr k) = v ||| put 8 k) (k : BitVec 3) : isWordOf (v ||| put 8 k) (instr k) := by
  have hmonadic : isWordOf (v ||| put 8 (Reg.ofBits k).bits) (instr (Reg.ofBits k).bits) :=
    isWordOf_monadicWord (instr := fun r => instr r.bits) hv (fun w hw => by rw [hrow w hw, bits_fieldD])
      (fun r => hencode r.bits) _
  rwa [Reg.bits_ofBits] at hmonadic

theorem isWordOf_ssemImm : ∀ k : BitVec 3, isWordOf (0x00F2 ||| put 8 k) (.ssemImm k) :=
  isWordOf_imm3Word (by decide) (fun w hw => by rw [decodeSystem, hw]; rfl) (fun _ => rfl)

theorem isWordOf_csemImm : ∀ k : BitVec 3, isWordOf (0x00F0 ||| put 8 k) (.csemImm k) :=
  isWordOf_imm3Word (by decide) (fun w hw => by rw [decodeSystem, hw]; rfl) (fun _ => rfl)

theorem isWordOf_ssemReg : ∀ rs : Reg, isWordOf (0x00F3 ||| put 8 rs.bits) (.ssemReg rs) :=
  isWordOf_monadicWord (by decide) (fun w hw => by rw [decodeSystem, hw]; rfl) (fun _ => rfl)

theorem isWordOf_csemReg : ∀ rs : Reg, isWordOf (0x00F1 ||| put 8 rs.bits) (.csemReg rs) :=
  isWordOf_monadicWord (by decide) (fun w hw => by rw [decodeSystem, hw]; rfl) (fun _ => rfl)

theorem isWordOf_sifReg : ∀ rs : Reg, isWordOf (0x00F7 ||| put 8 rs.bits) (.sifReg rs) :=
  isWordOf_monadicWord (by decide) (fun w hw => by rw [decodeSystem, hw]; rfl) (fun _ => rfl)

theorem isWordOf_brk : isWordOf 0x0000 .brk := ⟨rfl, rfl⟩

theorem isWordOf_nop : isWordOf 0x0100 .nop := ⟨rfl, rfl⟩

theorem isWordOf_sif : isWordOf 0x0300 .sif := ⟨rfl, rfl⟩

/-! ## NOP and BRK (R332, R334) -/

theorem exec_nop (s : State) : exec .nop s = .next s.advance := rfl

theorem exec_brk (s : State) : exec .brk s = .next { s with xgdbg := true, breakReqs := s.breakReqs + 1 } := rfl

/-- Settles O42: NOP is the advance of pc alone; BRK writes its two fields and leaves pc alone. -/
theorem nopAndBrk : Obligations.NopAndBrk :=
  ⟨isWordOf_nop, isWordOf_brk, fun s => ⟨exec_nop s, exec_brk s⟩⟩

/-! ## SSEM and CSEM (R324 to R327) -/

theorem Sems.get_set_same (t : Sems) (k : BitVec 3) (v : SemState) : (t.set k v).get k = v := by
  simp [Sems.get_set]

theorem Sems.get_set_other (t : Sems) {k j : BitVec 3} (hj : j ≠ k) (v : SemState) : (t.set k v).get j = t.get j := by
  simp [Sems.get_set, hj]

/-- The semaphore takes the state that the attempt makes of it, and C says whether that is the core's lock. -/
theorem setSemaphore_outcome {k : BitVec 3} {s : State} {old : SemState} (hold : s.sem.get k = old) :
    (setSemaphore k s).advance.sem.get k = old.coreLock ∧
      (setSemaphore k s).advance.ccr.c = decide (old.coreLock = .lockedXG) := by
  subst hold
  exact ⟨Sems.get_set_same _ _ _, rfl⟩

theorem clearSemaphore_outcome {k : BitVec 3} {s : State} {old : SemState} (hold : s.sem.get k = old) :
    (clearSemaphore k s).advance.sem.get k = old.coreUnlock := by
  subst hold
  exact Sems.get_set_same _ _ _

theorem afterSsem_setSemaphore (k : BitVec 3) (s : State) : s.afterSsem (setSemaphore k s).advance k :=
  ⟨setSemaphore_outcome, setSemaphore_outcome, setSemaphore_outcome, fun _ hj => Sems.get_set_other _ hj _,
    rfl, rfl, rfl, rfl, fun _ => rfl, rfl, fun _ => rfl⟩

theorem afterCsem_clearSemaphore (k : BitVec 3) (s : State) : s.afterCsem (clearSemaphore k s).advance k :=
  ⟨clearSemaphore_outcome, clearSemaphore_outcome, clearSemaphore_outcome, fun _ hj => Sems.get_set_other _ hj _,
    rfl, rfl, fun _ => rfl, rfl, fun _ => rfl⟩

theorem exec_ssemImm (k : BitVec 3) (s : State) : exec (.ssemImm k) s = .next (setSemaphore k s).advance := rfl

theorem exec_ssemReg (rs : Reg) (s : State) :
    exec (.ssemReg rs) s = .next (setSemaphore ((s.reg rs).extractLsb' 0 3) s).advance := rfl

theorem exec_csemImm (k : BitVec 3) (s : State) : exec (.csemImm k) s = .next (clearSemaphore k s).advance := rfl

theorem exec_csemReg (rs : Reg) (s : State) :
    exec (.csemReg rs) s = .next (clearSemaphore ((s.reg rs).extractLsb' 0 3) s).advance := rfl

/-- Settles O40: each form is one operation on one semaphore, which RS[2:0] names in the register form. -/
theorem semaphoreInstructionsFollowTheTable : Obligations.SemaphoreInstructionsFollowTheTable := by
  intro k rs s
  rw [ofNat_toNat_mod_eight]
  exact ⟨isWordOf_ssemImm k, isWordOf_ssemReg rs, isWordOf_csemImm k, isWordOf_csemReg rs,
    ⟨_, exec_ssemImm k s, afterSsem_setSemaphore k s⟩, ⟨_, exec_ssemReg rs s, afterSsem_setSemaphore _ s⟩,
    ⟨_, exec_csemImm k s, afterCsem_clearSemaphore k s⟩, ⟨_, exec_csemReg rs s, afterCsem_clearSemaphore _ s⟩⟩

/-! ## The implemented channels and their flags (R5, R46, R322) -/

/-- The mask is a run of ones from $09 on, as many as the numbers up to $78. -/
theorem channelMask_eq_shiftLeft : Config.channelMask = BitVec.ofNat 128 (2 ^ 0x70 - 1) <<< 0x09 := rfl

theorem getLsbD_channelMask (n : Nat) : Config.channelMask.getLsbD n = decide (0x09 ≤ n ∧ n ≤ 0x78) := by
  rw [channelMask_eq_shiftLeft, BitVec.getLsbD_shiftLeft, BitVec.getLsbD_ofNat, Nat.testBit_two_pow_sub_one,
    ← decide_not, ← Bool.decide_and, ← Bool.decide_and, ← Bool.decide_and, decide_eq_decide]
  omega

theorem getLsbD_channels_iff (c : Chip) (n : Nat) : c.channels.getLsbD n = true ↔ implemented c n := by
  rw [Chip.channels, BitVec.getLsbD_and, getLsbD_channelMask, Bool.and_eq_true, decide_eq_true_iff, implemented, and_comm,
    and_assoc]

theorem getLsbD_bit128 (n : BitVec 7) (j : Nat) : (bit128 n).getLsbD j = decide (j = n.toNat) := by
  have hn : n.toNat < 128 := n.isLt
  rw [bit128, ← BitVec.twoPow_eq, BitVec.getLsbD_twoPow, decide_eq_true hn, Bool.true_and, decide_eq_decide]
  exact eq_comm

/-- `setFlag` writes the flags and no other field, whether or not the channel is implemented. -/
theorem setFlag_eq (n : BitVec 7) (s : State) :
    setFlag n s = { s with xgif := if s.chip.channels.getLsbD n.toNat then s.xgif ||| bit128 n else s.xgif } := by
  rw [setFlag]
  split <;> rfl

theorem getLsbD_xgif_setFlag (n : BitVec 7) (s : State) (j : Nat) :
    (setFlag n s).xgif.getLsbD j = true ↔ s.xgif.getLsbD j = true ∨ (j = n.toNat ∧ implemented s.chip n.toNat) := by
  rw [setFlag_eq, ← getLsbD_channels_iff]
  split
  next himpl => simp [getLsbD_bit128, himpl]
  next hmissing => simp [hmissing]

/-! ## SIF (R320, R321) -/

theorem afterSif_setFlag (n : BitVec 7) (s : State) : s.afterSif (setFlag n s).advance n.toNat := by
  refine ⟨getLsbD_xgif_setFlag n s, ?_⟩
  rw [setFlag_eq]
  exact ⟨rfl, rfl, fun _ => rfl, rfl, fun _ => rfl⟩

theorem exec_sif (s : State) : exec .sif s = .next (setFlag s.xgchid s).advance := rfl

theorem exec_sifReg (rs : Reg) (s : State) :
    exec (.sifReg rs) s = .next (setFlag ((s.reg rs).extractLsb' 0 7) s).advance := rfl

/-- Settles O41: both forms are `setFlag`, on XGCHID or on the channel that RS[6:0] names. -/
theorem sifSetsAnImplementedFlag : Obligations.SifSetsAnImplementedFlag := by
  intro rs s
  have hchannel : (s.reg rs).toNat % 128 = ((s.reg rs).extractLsb' 0 7).toNat := by simp
  rw [hchannel]
  exact ⟨isWordOf_sif, isWordOf_sifReg rs, ⟨_, exec_sif s, afterSif_setFlag _ s⟩,
    ⟨_, exec_sifReg rs s, afterSif_setFlag _ s⟩⟩

end Sys2Proof.Machine
end

section
/-! The host's byte write to XGMCTL where it neither touches XGDBG nor steps, and its clearing of a flagged error
(10_state.md, 60_exceptions.md). -/

namespace Sys2Proof.Machine

/-! ## The parts of the write (R40) -/

theorem applyEvent_hostWriteByte_xgmctl (v : Byte) (s : State) :
    applyEvent (.hostWriteByte 0x00 v) s = writeXgmctl v s := rfl

@[simp] theorem thenDo_of_next (s : State) (f : State → Host.Outcome State Fault Refusal) :
    thenDo (.next s) f = f s := rfl

/-- Without the mask of XGDBG and without XGSS, the write is its first and its last part alone. -/
theorem writeXgmctl_of_noDebug_noStep {v : Byte} {s : State} (hdebug : v.getLsbD 5 = false)
    (hstep : v.getLsbD s.chip.xgssBit.index = false) :
    writeXgmctl v s = clearingError v (.next (s.withControl v)) := by
  simp only [writeXgmctl, hdebug, hstep, Bool.false_eq_true, if_false, thenDo_of_next]
  rfl

/-! ## The clearing of the error (R354) -/

/-- A 1 at bit 1 after an error is terminate_thread() with the flag cleared. -/
theorem clearingError_of_flagged {v : Byte} {s : State} (hclear : v.getLsbD 1 = true) (hflag : s.xgsweif = true) :
    clearingError v (.next s) = .next (terminateThread { s with xgsweif := false }) := by
  simp only [clearingError, onNext, hclear, hflag, Bool.and_self, if_true, terminateThread]

/-- "it does not end a healthy thread": whatever bit 1 is. -/
theorem clearingError_of_healthy (v : Byte) {s : State} (hflag : s.xgsweif = false) :
    clearingError v (.next s) = .next s := by
  simp only [clearingError, onNext, hflag, Bool.and_false, Bool.false_eq_true, if_false]

/-- Settles O48: the write is the three control bits and then the clearing, which acts on a flagged error alone. -/
theorem clearingTheErrorFlagEndsTheThread : Obligations.ClearingTheErrorFlagEndsTheThread := by
  intro v s hclear hdebug hstep
  rw [applyEvent_hostWriteByte_xgmctl, writeXgmctl_of_noDebug_noStep hdebug hstep]
  rcases Bool.eq_false_or_eq_true s.xgsweif with hflag | hflag
  · exact ⟨_, clearingError_of_flagged hclear hflag, fun _ => rfl,
      fun hhealthy => absurd hhealthy (ne_false_of_eq_true hflag)⟩
  · exact ⟨_, clearingError_of_healthy v hflag, fun herror => absurd herror (ne_true_of_eq_false hflag),
      fun _ => rfl⟩

end Sys2Proof.Machine
end

section
/-! The words of the branches, of the loads and stores and of the last immediate instructions, and the word of every
instruction (30_encoding.md). -/

namespace Sys2Proof

/-! ## The words of the branches and of the offset form (R127 to R129, R136) -/

/-- Major opcodes 4 to 7 are the branches (R127, R128, R140). -/
theorem decodeWord_of_branch {w : Word} (hmajor : 4 ≤ (w.extractLsb' 11 5).toNat ∧ (w.extractLsb' 11 5).toNat ≤ 7) :
    decodeWord w = .ok (decodeBranch w) := by
  have hcases : (w.extractLsb' 11 5).toNat = 4 ∨ (w.extractLsb' 11 5).toNat = 5 ∨ (w.extractLsb' 11 5).toNat = 6 ∨
      (w.extractLsb' 11 5).toNat = 7 := by omega
  rcases hcases with h | h | h | h <;> (rw [decodeWord, h]; rfl)

/-- Major opcodes 8 to 11 are the loads and stores with a constant offset (R129, R140). -/
theorem decodeWord_of_offset {w : Word} (hmajor : 8 ≤ (w.extractLsb' 11 5).toNat ∧ (w.extractLsb' 11 5).toNat ≤ 11) :
    decodeWord w = .ok (decodeOffset w) := by
  have hcases : (w.extractLsb' 11 5).toNat = 8 ∨ (w.extractLsb' 11 5).toNat = 9 ∨ (w.extractLsb' 11 5).toNat = 10 ∨
      (w.extractLsb' 11 5).toNat = 11 := by omega
  rcases hcases with h | h | h | h <;> (rw [decodeWord, h]; rfl)

/-- Bits 12:10 all ones is BRA, whose REL10 takes the last of the four bits that name a condition (R128). -/
theorem decodeBranch_of_bra {w : Word} (hbra : w.extractLsb' 10 3 = 7) : decodeBranch w = .bra (fieldRel10 w) := by
  have hcondition : 14 ≤ (w.extractLsb' 9 4).toNat := by
    have hseven := congrArg BitVec.toNat hbra
    simp only [BitVec.extractLsb'_toNat, Nat.shiftRight_eq_div_pow] at hseven ⊢
    change _ = 7 at hseven
    omega
  unfold decodeBranch
  split
  any_goals omega
  rfl

/-- Above the displacement a branch word has the bits of its row's value. -/
theorem extractLsb'_relativeWord (v : Word) {n : Nat} (rel : BitVec n) {start len : Nat} (hclear : n ≤ start) :
    (v ||| put 0 rel).extractLsb' start len = v.extractLsb' start len := by
  rw [BitVec.extractLsb'_or, extractLsb'_put_disjoint rel (.inr (by omega))]
  simp

theorem displacement_relativeWord {v : Word} {n : Nat} (hv : v.extractLsb' 0 n = 0) (rel : BitVec n) (hn : n ≤ 16) :
    (v ||| put 0 rel).extractLsb' 0 n = rel := by
  rw [BitVec.extractLsb'_or, hv, extractLsb'_put_same rel (by omega)]
  simp

theorem opcode_offsetWord (v : Word) (r rb : Reg) (off : BitVec 5) (len : Nat) :
    (v ||| put 8 r.bits ||| put 5 rb.bits ||| put 0 off).extractLsb' 11 len = v.extractLsb' 11 len := by
  rw [extractLsb'_relativeWord _ off (by decide), extractLsb'_shiftWord v r rb.bits (.inr (by decide)) (.inr (by decide))]

theorem fieldD_offsetWord {v : Word} (hv : v.extractLsb' 8 3 = 0) (r rb : Reg) (off : BitVec 5) :
    fieldD (v ||| put 8 r.bits ||| put 5 rb.bits ||| put 0 off) = r := by
  rw [fieldD, extractLsb'_relativeWord _ off (by decide)]
  exact fieldD_shiftWord hv r rb.bits (by decide)

theorem fieldS_offsetWord {v : Word} (hv : v.extractLsb' 5 3 = 0) (r rb : Reg) (off : BitVec 5) :
    fieldS (v ||| put 8 r.bits ||| put 5 rb.bits ||| put 0 off) = rb := by
  rw [fieldS, extractLsb'_relativeWord _ off (by decide), secondField_shiftWord hv r rb.bits (by decide),
    Reg.ofBits_bits]

theorem fieldOffs5_offsetWord {v : Word} (hv : v.extractLsb' 0 5 = 0) (r rb : Reg) (off : BitVec 5) :
    fieldOffs5 (v ||| put 8 r.bits ||| put 5 rb.bits ||| put 0 off) = off := by
  refine displacement_relativeWord ?_ off (by decide)
  rwa [extractLsb'_shiftWord v r rb.bits (.inl (by decide)) (.inl (by decide))]

end Sys2Proof

namespace Sys2Proof.Machine

/-- A row of the conditional branches is the word of the instruction that the decoder's arm for bits 12:9 names. -/
theorem isWordOf_rel9Word {v : Word} {instr : BitVec 9 → Instr}
    (hmajor : 4 ≤ (v.extractLsb' 11 5).toNat ∧ (v.extractLsb' 11 5).toNat ≤ 7) (hrel : v.extractLsb' 0 9 = 0)
    (hrow : ∀ w : Word, w.extractLsb' 9 4 = v.extractLsb' 9 4 → decodeBranch w = instr (fieldRel9 w))
    (hencode : ∀ rel, encode (instr rel) = v ||| put 0 rel) (rel : BitVec 9) :
    isWordOf (v ||| put 0 rel) (instr rel) := by
  refine ⟨?_, hencode rel⟩
  rw [decodeWord_of_branch (by rwa [extractLsb'_relativeWord v rel (by decide)]),
    hrow _ (extractLsb'_relativeWord v rel (by decide)), fieldRel9, displacement_relativeWord hrel rel (by decide)]

theorem isWordOf_bcc : ∀ rel : BitVec 9, isWordOf (0x2000 ||| put 0 rel) (.bcc rel) :=
  isWordOf_rel9Word (by decide) (by decide) (fun w hw => by rw [decodeBranch, hw]; rfl) (fun _ => rfl)

theorem isWordOf_bcs : ∀ rel : BitVec 9, isWordOf (0x2200 ||| put 0 rel) (.bcs rel) :=
  isWordOf_rel9Word (by decide) (by decide) (fun w hw => by rw [decodeBranch, hw]; rfl) (fun _ => rfl)

theorem isWordOf_bne : ∀ rel : BitVec 9, isWordOf (0x2400 ||| put 0 rel) (.bne rel) :=
  isWordOf_rel9Word (by decide) (by decide) (fun w hw => by rw [decodeBranch, hw]; rfl) (fun _ => rfl)

theorem isWordOf_beq : ∀ rel : BitVec 9, isWordOf (0x2600 ||| put 0 rel) (.beq rel) :=
  isWordOf_rel9Word (by decide) (by decide) (fun w hw => by rw [decodeBranch, hw]; rfl) (fun _ => rfl)

theorem isWordOf_bpl : ∀ rel : BitVec 9, isWordOf (0x2800 ||| put 0 rel) (.bpl rel) :=
  isWordOf_rel9Word (by decide) (by decide) (fun w hw => by rw [decodeBranch, hw]; rfl) (fun _ => rfl)

theorem isWordOf_bmi : ∀ rel : BitVec 9, isWordOf (0x2A00 ||| put 0 rel) (.bmi rel) :=
  isWordOf_rel9Word (by decide) (by decide) (fun w hw => by rw [decodeBranch, hw]; rfl) (fun _ => rfl)

theorem isWordOf_bvc : ∀ rel : BitVec 9, isWordOf (0x2C00 ||| put 0 rel) (.bvc rel) :=
  isWordOf_rel9Word (by decide) (by decide) (fun w hw => by rw [decodeBranch, hw]; rfl) (fun _ => rfl)

theorem isWordOf_bvs : ∀ rel : BitVec 9, isWordOf (0x2E00 ||| put 0 rel) (.bvs rel) :=
  isWordOf_rel9Word (by decide) (by decide) (fun w hw => by rw [decodeBranch, hw]; rfl) (fun _ => rfl)

theorem isWordOf_bhi : ∀ rel : BitVec 9, isWordOf (0x3000 ||| put 0 rel) (.bhi rel) :=
  isWordOf_rel9Word (by decide) (by decide) (fun w hw => by rw [decodeBranch, hw]; rfl) (fun _ => rfl)

theorem isWordOf_bls : ∀ rel : BitVec 9, isWordOf (0x3200 ||| put 0 rel) (.bls rel) :=
  isWordOf_rel9Word (by decide) (by decide) (fun w hw => by rw [decodeBranch, hw]; rfl) (fun _ => rfl)

theorem isWordOf_bge : ∀ rel : BitVec 9, isWordOf (0x3400 ||| put 0 rel) (.bge rel) :=
  isWordOf_rel9Word (by decide) (by decide) (fun w hw => by rw [decodeBranch, hw]; rfl) (fun _ => rfl)

theorem isWordOf_blt : ∀ rel : BitVec 9, isWordOf (0x3600 ||| put 0 rel) (.blt rel) :=
  isWordOf_rel9Word (by decide) (by decide) (fun w hw => by rw [decodeBranch, hw]; rfl) (fun _ => rfl)

theorem isWordOf_bgt : ∀ rel : BitVec 9, isWordOf (0x3800 ||| put 0 rel) (.bgt rel) :=
  isWordOf_rel9Word (by decide) (by decide) (fun w hw => by rw [decodeBranch, hw]; rfl) (fun _ => rfl)

theorem isWordOf_ble : ∀ rel : BitVec 9, isWordOf (0x3A00 ||| put 0 rel) (.ble rel) :=
  isWordOf_rel9Word (by decide) (by decide) (fun w hw => by rw [decodeBranch, hw]; rfl) (fun _ => rfl)

theorem isWordOf_bra (rel : BitVec 10) : isWordOf (0x3C00 ||| put 0 rel) (.bra rel) := by
  refine ⟨?_, rfl⟩
  rw [decodeWord_of_branch (by rw [extractLsb'_relativeWord _ rel (by decide)]; decide),
    decodeBranch_of_bra (by rw [extractLsb'_relativeWord _ rel (by decide)]; decide), fieldRel10,
    displacement_relativeWord (by decide) rel (by decide)]

/-- A row with a constant offset is the word of the instruction that the decoder's arm for bits 12:11 names. -/
theorem isWordOf_offsetWord {v : Word} {instr : Reg → Reg → BitVec 5 → Instr}
    (hmajor : 8 ≤ (v.extractLsb' 11 5).toNat ∧ (v.extractLsb' 11 5).toNat ≤ 11)
    (hfields : v.extractLsb' 8 3 = 0 ∧ v.extractLsb' 5 3 = 0 ∧ v.extractLsb' 0 5 = 0)
    (hrow : ∀ w : Word, w.extractLsb' 11 2 = v.extractLsb' 11 2 →
      decodeOffset w = instr (fieldD w) (fieldS w) (fieldOffs5 w))
    (hencode : ∀ r rb off, encode (instr r rb off) = v ||| put 8 r.bits ||| put 5 rb.bits ||| put 0 off)
    (r rb : Reg) (off : BitVec 5) :
    isWordOf (v ||| put 8 r.bits ||| put 5 rb.bits ||| put 0 off) (instr r rb off) := by
  obtain ⟨hd, hs, hoff⟩ := hfields
  refine ⟨?_, hencode r rb off⟩
  rw [decodeWord_of_offset (by rwa [opcode_offsetWord]), hrow _ (opcode_offsetWord v r rb off 2),
    fieldD_offsetWord hd, fieldS_offsetWord hs, fieldOffs5_offsetWord hoff]

theorem isWordOf_ldbOff : ∀ (rd rb : Reg) (off : BitVec 5),
    isWordOf (0x4000 ||| put 8 rd.bits ||| put 5 rb.bits ||| put 0 off) (.ldbOff rd rb off) :=
  isWordOf_offsetWord (by decide) (by decide) (fun w hw => by rw [decodeOffset, hw]; rfl) (fun _ _ _ => rfl)

theorem isWordOf_ldwOff : ∀ (rd rb : Reg) (off : BitVec 5),
    isWordOf (0x4800 ||| put 8 rd.bits ||| put 5 rb.bits ||| put 0 off) (.ldwOff rd rb off) :=
  isWordOf_offsetWord (by decide) (by decide) (fun w hw => by rw [decodeOffset, hw]; rfl) (fun _ _ _ => rfl)

theorem isWordOf_stbOff : ∀ (rs rb : Reg) (off : BitVec 5),
    isWordOf (0x5000 ||| put 8 rs.bits ||| put 5 rb.bits ||| put 0 off) (.stbOff rs rb off) :=
  isWordOf_offsetWord (by decide) (by decide) (fun w hw => by rw [decodeOffset, hw]; rfl) (fun _ _ _ => rfl)

theorem isWordOf_stwOff : ∀ (rs rb : Reg) (off : BitVec 5),
    isWordOf (0x5800 ||| put 8 rs.bits ||| put 5 rb.bits ||| put 0 off) (.stwOff rs rb off) :=
  isWordOf_offsetWord (by decide) (by decide) (fun w hw => by rw [decodeOffset, hw]; rfl) (fun _ _ _ => rfl)

theorem isWordOf_ldbIdx : ∀ rd rb ri : Reg,
    isWordOf (0x6000 ||| put 8 rd.bits ||| put 5 rb.bits ||| put 2 ri.bits) (.ldbIdx rd rb ri) :=
  isWordOf_indexedWord (by decide) (by decide) (fun w hsel hop => by rw [decodeIndexed, hsel, hop]; rfl) (fun _ _ _ => rfl)

theorem isWordOf_ldwIdx : ∀ rd rb ri : Reg,
    isWordOf (0x6800 ||| put 8 rd.bits ||| put 5 rb.bits ||| put 2 ri.bits) (.ldwIdx rd rb ri) :=
  isWordOf_indexedWord (by decide) (by decide) (fun w hsel hop => by rw [decodeIndexed, hsel, hop]; rfl) (fun _ _ _ => rfl)

theorem isWordOf_stbIdx : ∀ rs rb ri : Reg,
    isWordOf (0x7000 ||| put 8 rs.bits ||| put 5 rb.bits ||| put 2 ri.bits) (.stbIdx rs rb ri) :=
  isWordOf_indexedWord (by decide) (by decide) (fun w hsel hop => by rw [decodeIndexed, hsel, hop]; rfl) (fun _ _ _ => rfl)

theorem isWordOf_stwIdx : ∀ rs rb ri : Reg,
    isWordOf (0x7800 ||| put 8 rs.bits ||| put 5 rb.bits ||| put 2 ri.bits) (.stwIdx rs rb ri) :=
  isWordOf_indexedWord (by decide) (by decide) (fun w hsel hop => by rw [decodeIndexed, hsel, hop]; rfl) (fun _ _ _ => rfl)

theorem isWordOf_ldbInc : ∀ rd rb ri : Reg,
    isWordOf (0x6001 ||| put 8 rd.bits ||| put 5 rb.bits ||| put 2 ri.bits) (.ldbInc rd rb ri) :=
  isWordOf_indexedWord (by decide) (by decide) (fun w hsel hop => by rw [decodeIndexed, hsel, hop]; rfl) (fun _ _ _ => rfl)

theorem isWordOf_ldwInc : ∀ rd rb ri : Reg,
    isWordOf (0x6801 ||| put 8 rd.bits ||| put 5 rb.bits ||| put 2 ri.bits) (.ldwInc rd rb ri) :=
  isWordOf_indexedWord (by decide) (by decide) (fun w hsel hop => by rw [decodeIndexed, hsel, hop]; rfl) (fun _ _ _ => rfl)

theorem isWordOf_stbInc : ∀ rs rb ri : Reg,
    isWordOf (0x7001 ||| put 8 rs.bits ||| put 5 rb.bits ||| put 2 ri.bits) (.stbInc rs rb ri) :=
  isWordOf_indexedWord (by decide) (by decide) (fun w hsel hop => by rw [decodeIndexed, hsel, hop]; rfl) (fun _ _ _ => rfl)

theorem isWordOf_stwInc : ∀ rs rb ri : Reg,
    isWordOf (0x7801 ||| put 8 rs.bits ||| put 5 rb.bits ||| put 2 ri.bits) (.stwInc rs rb ri) :=
  isWordOf_indexedWord (by decide) (by decide) (fun w hsel hop => by rw [decodeIndexed, hsel, hop]; rfl) (fun _ _ _ => rfl)

theorem isWordOf_ldbDec : ∀ rd rb ri : Reg,
    isWordOf (0x6002 ||| put 8 rd.bits ||| put 5 rb.bits ||| put 2 ri.bits) (.ldbDec rd rb ri) :=
  isWordOf_indexedWord (by decide) (by decide) (fun w hsel hop => by rw [decodeIndexed, hsel, hop]; rfl) (fun _ _ _ => rfl)

theorem isWordOf_ldwDec : ∀ rd rb ri : Reg,
    isWordOf (0x6802 ||| put 8 rd.bits ||| put 5 rb.bits ||| put 2 ri.bits) (.ldwDec rd rb ri) :=
  isWordOf_indexedWord (by decide) (by decide) (fun w hsel hop => by rw [decodeIndexed, hsel, hop]; rfl) (fun _ _ _ => rfl)

theorem isWordOf_stbDec : ∀ rs rb ri : Reg,
    isWordOf (0x7002 ||| put 8 rs.bits ||| put 5 rb.bits ||| put 2 ri.bits) (.stbDec rs rb ri) :=
  isWordOf_indexedWord (by decide) (by decide) (fun w hsel hop => by rw [decodeIndexed, hsel, hop]; rfl) (fun _ _ _ => rfl)

theorem isWordOf_stwDec : ∀ rs rb ri : Reg,
    isWordOf (0x7802 ||| put 8 rs.bits ||| put 5 rb.bits ||| put 2 ri.bits) (.stwDec rs rb ri) :=
  isWordOf_indexedWord (by decide) (by decide) (fun w hsel hop => by rw [decodeIndexed, hsel, hop]; rfl) (fun _ _ _ => rfl)

theorem isWordOf_subl : ∀ (rd : Reg) (k : Byte), isWordOf (0xC000 ||| put 8 rd.bits ||| put 0 k) (.subl rd k) :=
  isWordOf_imm8Word (by decide) (fun w hw => by rw [decodeImm8, hw]; rfl) (fun _ _ => rfl)

theorem isWordOf_subh : ∀ (rd : Reg) (k : Byte), isWordOf (0xC800 ||| put 8 rd.bits ||| put 0 k) (.subh rd k) :=
  isWordOf_imm8Word (by decide) (fun w hw => by rw [decodeImm8, hw]; rfl) (fun _ _ => rfl)

theorem isWordOf_addl : ∀ (rd : Reg) (k : Byte), isWordOf (0xE000 ||| put 8 rd.bits ||| put 0 k) (.addl rd k) :=
  isWordOf_imm8Word (by decide) (fun w hw => by rw [decodeImm8, hw]; rfl) (fun _ _ => rfl)

theorem isWordOf_addh : ∀ (rd : Reg) (k : Byte), isWordOf (0xE800 ||| put 8 rd.bits ||| put 0 k) (.addh rd k) :=
  isWordOf_imm8Word (by decide) (fun w hw => by rw [decodeImm8, hw]; rfl) (fun _ _ => rfl)

theorem isWordOf_jal : ∀ rd : Reg, isWordOf (0x00F6 ||| put 8 rd.bits) (.jal rd) :=
  isWordOf_monadicWord (by decide) (fun w hw => by rw [decodeSystem, hw]; rfl) (fun _ => rfl)

theorem isWordOf_rts : isWordOf 0x0200 .rts := ⟨rfl, rfl⟩

/-! ## Encoding, then decoding -/

theorem isWordOf_encode : ∀ i : Instr, isWordOf (encode i) i
  | .brk => isWordOf_brk
  | .nop => isWordOf_nop
  | .rts => isWordOf_rts
  | .sif => isWordOf_sif
  | .csemImm k => isWordOf_csemImm k
  | .csemReg rs => isWordOf_csemReg rs
  | .ssemImm k => isWordOf_ssemImm k
  | .ssemReg rs => isWordOf_ssemReg rs
  | .sex rd => isWordOf_sex rd
  | .par rd => isWordOf_par rd
  | .jal rd => isWordOf_jal rd
  | .sifReg rs => isWordOf_sifReg rs
  | .tfrFromCcr rd => isWordOf_tfrFromCcr rd
  | .tfrToCcr rs => isWordOf_tfrToCcr rs
  | .bffo rd rs => isWordOf_bffo rd rs
  | .asrReg rd rs => isWordOf_asrReg rd rs
  | .cslReg rd rs => isWordOf_cslReg rd rs
  | .csrReg rd rs => isWordOf_csrReg rd rs
  | .lslReg rd rs => isWordOf_lslReg rd rs
  | .lsrReg rd rs => isWordOf_lsrReg rd rs
  | .rolReg rd rs => isWordOf_rolReg rd rs
  | .rorReg rd rs => isWordOf_rorReg rd rs
  | .asrImm rd n => isWordOf_asrImm rd n
  | .cslImm rd n => isWordOf_cslImm rd n
  | .csrImm rd n => isWordOf_csrImm rd n
  | .lslImm rd n => isWordOf_lslImm rd n
  | .lsrImm rd n => isWordOf_lsrImm rd n
  | .rolImm rd n => isWordOf_rolImm rd n
  | .rorImm rd n => isWordOf_rorImm rd n
  | .and rd rs1 rs2 => isWordOf_and rd rs1 rs2
  | .or rd rs1 rs2 => isWordOf_or rd rs1 rs2
  | .xnor rd rs1 rs2 => isWordOf_xnor rd rs1 rs2
  | .sub rd rs1 rs2 => isWordOf_sub rd rs1 rs2
  | .sbc rd rs1 rs2 => isWordOf_sbc rd rs1 rs2
  | .add rd rs1 rs2 => isWordOf_add rd rs1 rs2
  | .adc rd rs1 rs2 => isWordOf_adc rd rs1 rs2
  | .bcc rel => isWordOf_bcc rel
  | .bcs rel => isWordOf_bcs rel
  | .bne rel => isWordOf_bne rel
  | .beq rel => isWordOf_beq rel
  | .bpl rel => isWordOf_bpl rel
  | .bmi rel => isWordOf_bmi rel
  | .bvc rel => isWordOf_bvc rel
  | .bvs rel => isWordOf_bvs rel
  | .bhi rel => isWordOf_bhi rel
  | .bls rel => isWordOf_bls rel
  | .bge rel => isWordOf_bge rel
  | .blt rel => isWordOf_blt rel
  | .bgt rel => isWordOf_bgt rel
  | .ble rel => isWordOf_ble rel
  | .bra rel => isWordOf_bra rel
  | .ldbOff rd rb off => isWordOf_ldbOff rd rb off
  | .ldwOff rd rb off => isWordOf_ldwOff rd rb off
  | .stbOff rs rb off => isWordOf_stbOff rs rb off
  | .stwOff rs rb off => isWordOf_stwOff rs rb off
  | .ldbIdx rd rb ri => isWordOf_ldbIdx rd rb ri
  | .ldwIdx rd rb ri => isWordOf_ldwIdx rd rb ri
  | .stbIdx rs rb ri => isWordOf_stbIdx rs rb ri
  | .stwIdx rs rb ri => isWordOf_stwIdx rs rb ri
  | .ldbInc rd rb ri => isWordOf_ldbInc rd rb ri
  | .ldwInc rd rb ri => isWordOf_ldwInc rd rb ri
  | .stbInc rs rb ri => isWordOf_stbInc rs rb ri
  | .stwInc rs rb ri => isWordOf_stwInc rs rb ri
  | .ldbDec rd rb ri => isWordOf_ldbDec rd rb ri
  | .ldwDec rd rb ri => isWordOf_ldwDec rd rb ri
  | .stbDec rs rb ri => isWordOf_stbDec rs rb ri
  | .stwDec rs rb ri => isWordOf_stwDec rs rb ri
  | .bfext rd rs1 rs2 => isWordOf_bfext rd rs1 rs2
  | .bfins rd rs1 rs2 => isWordOf_bfins rd rs1 rs2
  | .bfinsi rd rs1 rs2 => isWordOf_bfinsi rd rs1 rs2
  | .bfinsx rd rs1 rs2 => isWordOf_bfinsx rd rs1 rs2
  | .andl rd k => isWordOf_andl rd k
  | .andh rd k => isWordOf_andh rd k
  | .bitl rd k => isWordOf_bitl rd k
  | .bith rd k => isWordOf_bith rd k
  | .orl rd k => isWordOf_orl rd k
  | .orh rd k => isWordOf_orh rd k
  | .xnorl rd k => isWordOf_xnorl rd k
  | .xnorh rd k => isWordOf_xnorh rd k
  | .subl rd k => isWordOf_subl rd k
  | .subh rd k => isWordOf_subh rd k
  | .cmpl rs k => isWordOf_cmpl rs k
  | .cpch rs k => isWordOf_cpch rs k
  | .addl rd k => isWordOf_addl rd k
  | .addh rd k => isWordOf_addh rd k
  | .ldl rd k => isWordOf_ldl rd k
  | .ldh rd k => isWordOf_ldh rd k

end Sys2Proof.Machine
end

section
/-! Decoding after encoding, and each word as its row's value with the fields it holds (30_encoding.md). -/

namespace Sys2Proof.Machine

/-- Settles O2: every row's word decodes to its instruction, and the two stored bytes join to that word. -/
theorem encodingDecodesToTheInstruction : Obligations.EncodingDecodesToTheInstruction := by
  intro i rest
  obtain ⟨hdecode, -⟩ := isWordOf_encode i
  refine ⟨hdecode, ?_⟩
  simp only [encodeBytes, List.cons_append, List.nil_append, decodeBytes, joinBytes_highByte_lowByte, hdecode]

/-- Settles O1: each sample word is a closed term on which the decoder runs. -/
theorem sampleWordsDecode : Obligations.SampleWordsDecode :=
  ⟨rfl, rfl, rfl, rfl, rfl, rfl, rfl, rfl, rfl, rfl, rfl, rfl, rfl, rfl⟩

end Sys2Proof.Machine

namespace Sys2Proof

/-! ## A word is its row's value with its own fields -/

theorem toNat_extractLsb' (w : Word) (start len : Nat) :
    (w.extractLsb' start len).toNat = w.toNat / 2 ^ start % 2 ^ len := by
  rw [BitVec.extractLsb'_toNat, Nat.shiftRight_eq_div_pow]

/-- Agreement on two neighbouring runs of bits is agreement on both together. -/
theorem extractLsb'_eq_append {x y : Word} {start m n : Nat} (hlow : x.extractLsb' start m = y.extractLsb' start m)
    (hhigh : x.extractLsb' (start + m) n = y.extractLsb' (start + m) n) :
    x.extractLsb' start (m + n) = y.extractLsb' start (m + n) := by
  apply BitVec.eq_of_getLsbD_eq
  intro i hi
  rcases Nat.lt_or_ge i m with hbelow | habove
  · have hbit := congrArg (fun b => b.getLsbD i) hlow
    simpa [hbelow, hi] using hbit
  · have hbit := congrArg (fun b => b.getLsbD (i - m)) hhigh
    have hplace : start + m + (i - m) = start + i := by omega
    have hinside : i - m < n := by omega
    simpa [hplace, hinside, hi] using hbit

theorem eq_of_extractLsb'_all {x y : Word} (hall : x.extractLsb' 0 16 = y.extractLsb' 0 16) : x = y := by
  simpa using hall

/-- The bits of RD's field are those the register stands for. -/
theorem extractLsb'_eq_of_fieldD {x y : Word} (h : fieldD x = fieldD y) : x.extractLsb' 8 3 = y.extractLsb' 8 3 := by
  have hbits := congrArg Reg.bits h
  rwa [bits_fieldD, bits_fieldD] at hbits

theorem extractLsb'_eq_of_fieldS {x y : Word} (h : fieldS x = fieldS y) : x.extractLsb' 5 3 = y.extractLsb' 5 3 := by
  have hbits := congrArg Reg.bits h
  rwa [fieldS, fieldS, Reg.bits_ofBits, Reg.bits_ofBits] at hbits

theorem extractLsb'_eq_of_fieldT {x y : Word} (h : fieldT x = fieldT y) : x.extractLsb' 2 3 = y.extractLsb' 2 3 := by
  have hbits := congrArg Reg.bits h
  rwa [fieldT, fieldT, Reg.bits_ofBits, Reg.bits_ofBits] at hbits

theorem imm8Word_fields {v w : Word} (hv : v.extractLsb' 8 3 = 0 ∧ v.extractLsb' 0 8 = 0)
    (hopcode : w.extractLsb' 11 5 = v.extractLsb' 11 5) : v ||| put 8 (fieldD w).bits ||| put 0 (fieldImm8 w) = w := by
  obtain ⟨hd, hk⟩ := hv
  have h0 := fieldImm8_imm8Word hk (fieldD w) (fieldImm8 w)
  have h8 := extractLsb'_eq_of_fieldD (fieldD_imm8Word hd (fieldD w) (fieldImm8 w))
  have h11 := (opcode_imm8Word v (fieldD w) (fieldImm8 w) 5).trans hopcode.symm
  exact eq_of_extractLsb'_all (extractLsb'_eq_append (extractLsb'_eq_append h0 h8) h11)

theorem monadicWord_fields {v w : Word} (hv : v.extractLsb' 8 3 = 0) (hlow : w.extractLsb' 0 8 = v.extractLsb' 0 8)
    (hopcode : w.extractLsb' 11 5 = v.extractLsb' 11 5) : v ||| put 8 (fieldD w).bits = w := by
  have h0 := (extractLsb'_monadicWord v (fieldD w) (.inl (by decide))).trans hlow.symm
  have h8 := extractLsb'_eq_of_fieldD (fieldD_monadicWord hv (fieldD w))
  have h11 := (extractLsb'_monadicWord v (fieldD w) (.inr (by decide))).trans hopcode.symm
  exact eq_of_extractLsb'_all (extractLsb'_eq_append (extractLsb'_eq_append h0 h8) h11)

theorem triadicWord_fields {v w : Word} (hv : v.extractLsb' 8 3 = 0 ∧ v.extractLsb' 5 3 = 0 ∧ v.extractLsb' 2 3 = 0)
    (hselector : w.extractLsb' 0 2 = v.extractLsb' 0 2) (hopcode : w.extractLsb' 11 5 = v.extractLsb' 11 5) :
    v ||| put 8 (fieldD w).bits ||| put 5 (fieldS w).bits ||| put 2 (fieldT w).bits = w := by
  obtain ⟨hd, hs, ht⟩ := hv
  have h0 := (selector_triadicWord v (fieldD w) (fieldS w) (fieldT w)).trans hselector.symm
  have h2 := extractLsb'_eq_of_fieldT (fieldT_triadicWord ht (fieldD w) (fieldS w) (fieldT w))
  have h5 := extractLsb'_eq_of_fieldS (fieldS_triadicWord hs (fieldD w) (fieldS w) (fieldT w))
  have h8 := extractLsb'_eq_of_fieldD (fieldD_triadicWord hd (fieldD w) (fieldS w) (fieldT w))
  have h11 := (opcode_triadicWord v (fieldD w) (fieldS w) (fieldT w) 5).trans hopcode.symm
  exact eq_of_extractLsb'_all (extractLsb'_eq_append (extractLsb'_eq_append
    (extractLsb'_eq_append (extractLsb'_eq_append h0 h2) h5) h8) h11)

theorem imm4Word_fields {v w : Word} (hv : v.extractLsb' 8 3 = 0 ∧ v.extractLsb' 4 4 = 0)
    (hselector : w.extractLsb' 0 4 = v.extractLsb' 0 4) (hopcode : w.extractLsb' 11 5 = v.extractLsb' 11 5) :
    v ||| put 8 (fieldD w).bits ||| put 4 (fieldImm4 w) = w := by
  obtain ⟨hd, hk⟩ := hv
  have h0 := (extractLsb'_shiftWord v (fieldD w) (fieldImm4 w) (lo := 4) (start := 0) (len := 4)
    (.inl (by decide)) (.inl (by decide))).trans
    hselector.symm
  have h4 := secondField_shiftWord hk (fieldD w) (fieldImm4 w) (by decide)
  have h8 := extractLsb'_eq_of_fieldD (fieldD_shiftWord (lo := 4) hd (fieldD w) (fieldImm4 w) (by decide))
  have h11 := (extractLsb'_shiftWord v (fieldD w) (fieldImm4 w) (lo := 4) (start := 11) (len := 5)
    (.inr (by decide)) (.inr (by decide))).trans
    hopcode.symm
  exact eq_of_extractLsb'_all (extractLsb'_eq_append (extractLsb'_eq_append (extractLsb'_eq_append h0 h4) h8) h11)

theorem dyadicWord_fields {v w : Word} (hv : v.extractLsb' 8 3 = 0 ∧ v.extractLsb' 5 3 = 0)
    (hselector : w.extractLsb' 0 5 = v.extractLsb' 0 5) (hopcode : w.extractLsb' 11 5 = v.extractLsb' 11 5) :
    v ||| put 8 (fieldD w).bits ||| put 5 (fieldS w).bits = w := by
  obtain ⟨hd, hs⟩ := hv
  have hbits : (fieldS w).bits = w.extractLsb' 5 3 := Reg.bits_ofBits _
  have h0 := (extractLsb'_shiftWord v (fieldD w) (fieldS w).bits (lo := 5) (start := 0) (len := 5) (.inl (by decide))
    (.inl (by decide))).trans hselector.symm
  have h5 := (secondField_shiftWord hs (fieldD w) (fieldS w).bits (by decide)).trans hbits
  have h8 := extractLsb'_eq_of_fieldD (fieldD_shiftWord (lo := 5) hd (fieldD w) (fieldS w).bits (by decide))
  have h11 := (extractLsb'_shiftWord v (fieldD w) (fieldS w).bits (lo := 5) (start := 11) (len := 5) (.inr (by decide))
    (.inr (by decide))).trans hopcode.symm
  exact eq_of_extractLsb'_all (extractLsb'_eq_append (extractLsb'_eq_append (extractLsb'_eq_append h0 h5) h8) h11)

theorem offsetWord_fields {v w : Word} (hv : v.extractLsb' 8 3 = 0 ∧ v.extractLsb' 5 3 = 0 ∧ v.extractLsb' 0 5 = 0)
    (hopcode : w.extractLsb' 11 5 = v.extractLsb' 11 5) :
    v ||| put 8 (fieldD w).bits ||| put 5 (fieldS w).bits ||| put 0 (fieldOffs5 w) = w := by
  obtain ⟨hd, hs, hoff⟩ := hv
  have h0 := fieldOffs5_offsetWord hoff (fieldD w) (fieldS w) (fieldOffs5 w)
  have h5 := extractLsb'_eq_of_fieldS (fieldS_offsetWord hs (fieldD w) (fieldS w) (fieldOffs5 w))
  have h8 := extractLsb'_eq_of_fieldD (fieldD_offsetWord hd (fieldD w) (fieldS w) (fieldOffs5 w))
  have h11 := (opcode_offsetWord v (fieldD w) (fieldS w) (fieldOffs5 w) 5).trans hopcode.symm
  exact eq_of_extractLsb'_all (extractLsb'_eq_append (extractLsb'_eq_append (extractLsb'_eq_append h0 h5) h8) h11)

theorem relativeWord_fields {v w : Word} {n : Nat} (hv : v.extractLsb' 0 n = 0) (hn : n ≤ 16)
    (hopcode : w.extractLsb' n (16 - n) = v.extractLsb' n (16 - n)) : v ||| put 0 (w.extractLsb' 0 n) = w := by
  have hlow := displacement_relativeWord hv (w.extractLsb' 0 n) hn
  have hhigh : (v ||| put 0 (w.extractLsb' 0 n)).extractLsb' (0 + n) (16 - n) = w.extractLsb' (0 + n) (16 - n) := by
    rw [Nat.zero_add, extractLsb'_relativeWord v _ (Nat.le_refl n), hopcode]
  have hall := extractLsb'_eq_append hlow hhigh
  rw [Nat.add_sub_cancel' hn] at hall
  exact eq_of_extractLsb'_all hall

end Sys2Proof
end

section
/-! What the decoder can answer to a word, and how many words are illegal (30_encoding.md). -/

namespace Sys2Proof.Machine

/-! ## All that the decoder can answer -/

/-- The set of R141 with its conditions as propositions. -/
theorem illegalNumber_iff (n : Nat) : illegalNumber n = true ↔
    (n < 0x800 ∧ n ≠ 0 ∧ n ≠ 0x100 ∧ n ≠ 0x200 ∧ n ≠ 0x300 ∧ ¬ (0xF0 ≤ n % 0x100 ∧ n % 0x100 ≤ 0xF9)) ∨
      (0x800 ≤ n ∧ n < 0x1000 ∧ (n / 8 % 4 = 0 ∨ n % 16 = 8)) ∨ (0x1000 ≤ n ∧ n < 0x1800 ∧ n % 4 = 1) := by
  simp only [illegalNumber, Bool.or_eq_true, Bool.and_eq_true, decide_eq_true_eq, bne_iff_ne, beq_iff_eq,
    Bool.not_eq_true', ← Bool.not_eq_true]
  tauto

/-- An answer of the decoder to `w`: an instruction whose encoding `w` is and whose word is legal, or the error that names
`w` illegal, and then it is. -/
inductive DecodesTo (w : Word) : Except DecodeError Instr → Prop
  | legal (i : Instr) (hencode : encode i = w) (hlegal : illegalNumber w.toNat = false) : DecodesTo w (.ok i)
  | illegal (hillegal : illegalNumber w.toNat = true) : DecodesTo w (.error (.illegalOpcode w))

/-- From major opcode 3 on every word is legal (R141). -/
theorem illegalNumber_of_ge {n : Nat} (hn : 0x1800 ≤ n) : illegalNumber n = false := by
  rw [← Bool.not_eq_true, illegalNumber_iff]
  omega

theorem decodesTo_of_encode {w : Word} {i : Instr} (hmajor : 3 ≤ (w.extractLsb' 11 5).toNat) (hencode : encode i = w) :
    DecodesTo w (.ok i) := by
  rw [toNat_extractLsb'] at hmajor
  exact .legal i hencode (illegalNumber_of_ge (by omega))

theorem encode_decodeImm8 {w : Word} (hmajor : 16 ≤ (w.extractLsb' 11 5).toNat) : encode (decodeImm8 w) = w := by
  unfold decodeImm8
  split
  all_goals
    refine imm8Word_fields (by decide) (BitVec.eq_of_toNat_eq ?_)
    simp only [toNat_extractLsb'] at *
    norm_num at *
    omega

theorem encode_decodeArith {w : Word} (hmajor : (w.extractLsb' 11 5).toNat = 3) : encode (decodeArith w) = w := by
  unfold decodeArith
  split
  all_goals
    refine triadicWord_fields (by decide) (BitVec.eq_of_toNat_eq ?_) (BitVec.eq_of_toNat_eq hmajor)
    simp only [toNat_extractLsb'] at *
    norm_num at *
    omega

theorem encode_decodeOffset {w : Word} (hmajor : 8 ≤ (w.extractLsb' 11 5).toNat ∧ (w.extractLsb' 11 5).toNat ≤ 11) :
    encode (decodeOffset w) = w := by
  obtain ⟨hlow, hhigh⟩ := hmajor
  unfold decodeOffset
  split
  all_goals
    refine offsetWord_fields (by decide) (BitVec.eq_of_toNat_eq ?_)
    simp only [toNat_extractLsb'] at *
    norm_num at *
    omega

theorem encode_decodeIndexed {w : Word} (hmajor : 12 ≤ (w.extractLsb' 11 5).toNat ∧ (w.extractLsb' 11 5).toNat ≤ 15) :
    encode (decodeIndexed w) = w := by
  obtain ⟨hlow, hhigh⟩ := hmajor
  unfold decodeIndexed
  split <;> split
  all_goals
    refine triadicWord_fields (by decide) (BitVec.eq_of_toNat_eq ?_) (BitVec.eq_of_toNat_eq ?_)
    all_goals
      simp only [toNat_extractLsb'] at *
      norm_num at *
      omega

theorem encode_decodeBranch {w : Word} (hmajor : 4 ≤ (w.extractLsb' 11 5).toNat ∧ (w.extractLsb' 11 5).toNat ≤ 7) :
    encode (decodeBranch w) = w := by
  obtain ⟨hlow, hhigh⟩ := hmajor
  unfold decodeBranch
  split
  all_goals
    refine relativeWord_fields (by decide) (by decide) (BitVec.eq_of_toNat_eq ?_)
    simp only [toNat_extractLsb'] at *
    norm_num at *
    omega

/-- R141 in major opcode 2: bits 1:0 are `01`. -/
theorem illegalNumber_of_logic {w : Word} (hmajor : (w.extractLsb' 11 5).toNat = 2) :
    illegalNumber w.toNat = decide ((w.extractLsb' 0 2).toNat = 1) := by
  rw [Bool.eq_iff_iff, illegalNumber_iff, decide_eq_true_iff]
  simp only [toNat_extractLsb'] at *
  omega

theorem decodesTo_decodeLogic {w : Word} (hmajor : (w.extractLsb' 11 5).toNat = 2) : DecodesTo w (decodeLogic w) := by
  have hbound := (w.extractLsb' 0 2).isLt
  have hop : w.extractLsb' 11 5 = 2 := BitVec.eq_of_toNat_eq hmajor
  have hlegal := illegalNumber_of_logic hmajor
  unfold decodeLogic
  split
  case h_4 =>
    simp only [imp_false] at *
    exact .illegal (by rw [hlegal, decide_eq_true_iff]; omega)
  all_goals
    next hsel =>
    exact .legal _ (triadicWord_fields (by decide) (BitVec.eq_of_toNat_eq hsel) hop) (by rw [hlegal, hsel]; rfl)

/-- R141 in major opcode 1: bits 4:3 are `00`, or bits 3:0 are `1000`. -/
theorem illegalNumber_of_shift {w : Word} (hmajor : (w.extractLsb' 11 5).toNat = 1) :
    illegalNumber w.toNat = decide ((w.extractLsb' 0 5).toNat < 8 ∨ (w.extractLsb' 0 4).toNat = 8) := by
  rw [Bool.eq_iff_iff, illegalNumber_iff, decide_eq_true_iff]
  simp only [toNat_extractLsb'] at *
  omega

theorem decodesTo_decodeShift {w : Word} (hmajor : (w.extractLsb' 11 5).toNat = 1) : DecodesTo w (decodeShift w) := by
  have hbound := (w.extractLsb' 0 5).isLt
  have hlow : (w.extractLsb' 0 4).toNat = (w.extractLsb' 0 5).toNat % 16 := by
    simp only [toNat_extractLsb']
    omega
  have hop : w.extractLsb' 11 5 = 1 := BitVec.eq_of_toNat_eq hmajor
  have hlegal := illegalNumber_of_shift hmajor
  unfold decodeShift
  split
  case h_8 =>
    split
    case h_9 =>
      simp only [imp_false] at *
      exact .illegal (by rw [hlegal, decide_eq_true_iff]; omega)
    all_goals
      next hsel =>
      exact .legal _ (dyadicWord_fields (by decide) (BitVec.eq_of_toNat_eq hsel) hop) (by rw [hlegal, hlow, hsel]; rfl)
  all_goals
    next hsel =>
    refine .legal _ (imm4Word_fields (by decide) (BitVec.eq_of_toNat_eq hsel) hop) ?_
    rw [hlegal, decide_eq_false_iff_not]
    omega

/-- R141 in major opcode 0: the low byte is 0 with bits 10:8 above 3, or it is neither 0 nor one of $F0 to $F9. -/
theorem illegalNumber_of_system {w : Word} (hmajor : (w.extractLsb' 11 5).toNat = 0) :
    illegalNumber w.toNat = decide (((w.extractLsb' 0 8).toNat = 0 ∧ 4 ≤ (w.extractLsb' 8 3).toNat) ∨
      ((w.extractLsb' 0 8).toNat ≠ 0 ∧ ¬ (0xF0 ≤ (w.extractLsb' 0 8).toNat ∧ (w.extractLsb' 0 8).toNat ≤ 0xF9))) := by
  rw [Bool.eq_iff_iff, illegalNumber_iff, decide_eq_true_iff]
  simp only [toNat_extractLsb'] at *
  omega

theorem decodesTo_decodeSystem {w : Word} (hmajor : (w.extractLsb' 11 5).toNat = 0) : DecodesTo w (decodeSystem w) := by
  have hop : w.extractLsb' 11 5 = 0 := BitVec.eq_of_toNat_eq hmajor
  have hlegal := illegalNumber_of_system hmajor
  have himm3 (v : Word) (hv : v.extractLsb' 8 3 = 0 ∧ v.extractLsb' 11 5 = 0)
      (hsel : w.extractLsb' 0 8 = v.extractLsb' 0 8) : v ||| put 8 (fieldImm3 w) = w :=
    bits_fieldD w ▸ monadicWord_fields hv.1 hsel (hop.trans hv.2.symm)
  unfold decodeSystem
  split
  case h_1 hzero =>
    have hnumber : w.toNat = 256 * (w.extractLsb' 8 3).toNat := by
      simp only [toNat_extractLsb'] at *
      omega
    split
    case h_5 =>
      simp only [imp_false] at *
      exact .illegal (by rw [hlegal, decide_eq_true_iff]; omega)
    all_goals
      next hselector =>
      exact .legal _ (BitVec.eq_of_toNat_eq (by rw [hnumber, hselector]; rfl)) (by rw [hlegal, hzero, hselector]; rfl)
  case h_12 =>
    simp only [imp_false] at *
    exact .illegal (by rw [hlegal, decide_eq_true_iff]; omega)
  case h_2 hlow => exact .legal _ (himm3 0x00F0 (by decide) (BitVec.eq_of_toNat_eq hlow)) (by rw [hlegal, hlow]; rfl)
  case h_4 hlow => exact .legal _ (himm3 0x00F2 (by decide) (BitVec.eq_of_toNat_eq hlow)) (by rw [hlegal, hlow]; rfl)
  all_goals
    next hlow =>
    exact .legal _ (monadicWord_fields (by decide) (BitVec.eq_of_toNat_eq hlow) hop) (by rw [hlegal, hlow]; rfl)

/-- All that the decoder can answer: R140 by major opcode. -/
theorem decodesTo_decodeWord (w : Word) : DecodesTo w (decodeWord w) := by
  have hbound := (w.extractLsb' 11 5).isLt
  have hcases : (w.extractLsb' 11 5).toNat = 0 ∨ (w.extractLsb' 11 5).toNat = 1 ∨ (w.extractLsb' 11 5).toNat = 2 ∨
      (w.extractLsb' 11 5).toNat = 3 ∨ (4 ≤ (w.extractLsb' 11 5).toNat ∧ (w.extractLsb' 11 5).toNat ≤ 7) ∨
      (8 ≤ (w.extractLsb' 11 5).toNat ∧ (w.extractLsb' 11 5).toNat ≤ 11) ∨
      (12 ≤ (w.extractLsb' 11 5).toNat ∧ (w.extractLsb' 11 5).toNat ≤ 15) ∨ 16 ≤ (w.extractLsb' 11 5).toNat := by omega
  rcases hcases with hsystem | hshift | hlogic | harith | hbranch | hoffset | hindexed | himm8
  · rw [decodeWord_of_system (BitVec.eq_of_toNat_eq hsystem)]
    exact decodesTo_decodeSystem hsystem
  · rw [decodeWord_of_shift (BitVec.eq_of_toNat_eq hshift)]
    exact decodesTo_decodeShift hshift
  · rw [decodeWord_of_logic (BitVec.eq_of_toNat_eq hlogic)]
    exact decodesTo_decodeLogic hlogic
  · rw [decodeWord_of_arith (BitVec.eq_of_toNat_eq harith)]
    exact decodesTo_of_encode (by omega) (encode_decodeArith harith)
  · rw [decodeWord_of_branch hbranch]
    exact decodesTo_of_encode (by omega) (encode_decodeBranch hbranch)
  · rw [decodeWord_of_offset hoffset]
    exact decodesTo_of_encode (by omega) (encode_decodeOffset hoffset)
  · rw [decodeWord_of_indexed hindexed]
    exact decodesTo_of_encode (by omega) (encode_decodeIndexed hindexed)
  · rw [decodeWord_of_imm8 himm8]
    exact decodesTo_of_encode (by omega) (encode_decodeImm8 himm8)

/-- Settles O3: the decoder's only answers are the instruction whose encoding the word is, and the error. -/
theorem decodedWordEncodesBack : Obligations.DecodedWordEncodesBack := by
  intro w i hdecode
  have hanswer := decodesTo_decodeWord w
  rw [hdecode] at hanswer
  cases hanswer with
  | legal _ hencode _ => exact hencode

theorem decodeWord_eq_illegal_iff (w : Word) :
    decodeWord w = .error (.illegalOpcode w) ↔ illegalNumber w.toNat = true := by
  have hanswer := decodesTo_decodeWord w
  generalize decodeWord w = answer at hanswer ⊢
  cases hanswer with
  | legal i _ hlegal => simp [hlegal]
  | illegal hillegal => simp [hillegal]

theorem exists_decodeWord_iff (w : Word) : (∃ i, decodeWord w = .ok i) ↔ illegalNumber w.toNat = false := by
  have hanswer := decodesTo_decodeWord w
  generalize decodeWord w = answer at hanswer ⊢
  cases hanswer with
  | legal i _ hlegal => simp [hlegal]
  | illegal hillegal => simp [hillegal]

/-! ## How many words are illegal -/

/-- Over `k` periods a periodic condition is met `k` times as often as over one. -/
theorem count_mul_of_periodic {p : Nat → Prop} [DecidablePred p] {period : Nat}
    (hperiodic : ∀ n, p (period + n) ↔ p n) (k : Nat) : Nat.count p (period * k) = Nat.count p period * k := by
  induction k with
  | zero => simp
  | succ k ih =>
    rw [Nat.mul_succ, Nat.add_comm, Nat.count_add]
    simp only [hperiodic]
    rw [ih, Nat.mul_succ, Nat.add_comm]

/-- A block of numbers adds as many as meet a condition that says the same there, place by place. -/
theorem count_add_block {p q : Nat → Prop} [DecidablePred p] [DecidablePred q] {base len : Nat}
    (hblock : ∀ k, k < len → (p (base + k) ↔ q k)) : Nat.count p (base + len) = Nat.count p base + Nat.count q len := by
  rw [Nat.count_add, Nat.count, Nat.count]
  congr 1
  exact List.countP_congr fun k hk => by simpa using hblock k (List.mem_range.mp hk)

/-- A low byte that is none of those of the monadic instructions (R123). -/
abbrev unusedLowByte (n : Nat) : Prop := ¬ (0xF0 ≤ n % 0x100 ∧ n % 0x100 ≤ 0xF9)

theorem count_unusedLowByte : Nat.count unusedLowByte 0x100 = 246 := by
  change Nat.count unusedLowByte (0 + 0xF0 + 0x0A + 0x06) = 246
  rw [count_add_block (q := fun _ => True) (by grind), count_add_block (q := fun _ => False) (by grind),
    count_add_block (q := fun _ => True) (by grind), Nat.count_zero, Nat.count_true, Nat.count_true, Nat.count_false]

theorem count_unusedLowByte_ne_zero : Nat.count (fun n => n % 0x100 ≠ 0 ∧ unusedLowByte n) 0x100 = 245 := by
  change Nat.count _ (0 + 0x01 + 0xEF + 0x0A + 0x06) = 245
  rw [count_add_block (q := fun _ => True) (by grind), count_add_block (q := fun _ => False) (by grind),
    count_add_block (q := fun _ => True) (by grind), count_add_block (q := fun _ => False) (by grind), Nat.count_zero,
    Nat.count_true, Nat.count_true, Nat.count_false, Nat.count_false]

/-- The two halves of major opcode 0, major opcodes 1 and 2, and the rest, in which no word is illegal (R141). -/
theorem count_illegalNumber : Nat.count (fun n => illegalNumber n = true) 65536 = 3116 := by
  have hshift : Nat.count (fun n => n / 8 % 4 = 0 ∨ n % 16 = 8) 32 = 10 := by decide
  have hlogic : Nat.count (fun n => n % 4 = 1) 4 = 1 := by decide
  simp only [illegalNumber_iff]
  change Nat.count _ (0 + 0x100 * 4 + 0x100 * 4 + 32 * 64 + 4 * 512 + 0xE800) = 3116
  rw [count_add_block (q := fun _ => False) (by grind), count_add_block (q := fun n => n % 4 = 1) (by grind),
    count_add_block (q := fun n => n / 8 % 4 = 0 ∨ n % 16 = 8) (by grind),
    count_add_block (q := unusedLowByte) (by grind),
    count_add_block (q := fun n => n % 0x100 ≠ 0 ∧ unusedLowByte n) (by grind),
    count_mul_of_periodic (by grind), count_mul_of_periodic (by grind), count_mul_of_periodic (by grind),
    count_mul_of_periodic (by grind), count_unusedLowByte, count_unusedLowByte_ne_zero, hshift, hlogic, Nat.count_zero,
    Nat.count_false]

theorem length_filter_illegalNumber : ((List.range 65536).filter illegalNumber).length = 3116 := by
  rw [← List.countP_eq_length_filter, ← count_illegalNumber, Nat.count]
  simp only [Bool.decide_eq_true]

end Sys2Proof.Machine
end

section
/-! The memory map and the conditions of an access as arithmetic, what a software error leaves, and the errors of fetches,
vector fetches and illegal words (20_memory.md, 60_exceptions.md). -/

namespace Sys2Proof.Machine

/-! ## The memory map as arithmetic (R86 to R88, R99, R111) -/

theorem space_eq_register_iff (c : Chip) (a : Word) : space c a = .register ↔ a.toNat ≤ 0x07FF := by
  unfold space
  split_ifs with hregister <;> simp [hregister]

/-- RAM ends at $FFFF and never reaches below $0800, where the Register Space is. -/
theorem space_eq_ram_iff (c : Chip) (a : Word) : space c a = .ram ↔ 0x10000 - min c.ramSize 0xF800 ≤ a.toNat := by
  unfold space
  split_ifs with hregister hram
  · simp only [false_iff]
    omega
  · simp [hram]
  · simp [hram]

theorem space_eq_unmapped_iff (c : Chip) (a : Word) :
    space c a = .unmapped ↔ 0x07FF < a.toNat ∧ a.toNat < 0x10000 - min c.ramSize 0xF800 := by
  unfold space
  split_ifs with hregister hram
  · simp [hregister]
  · simp [hram]
  · simp only [true_iff]
    omega

theorem getLsbD_zero_eq_true_iff (a : Word) : a.getLsbD 0 = true ↔ a.toNat % 2 = 1 := by
  simp [BitVec.getLsbD, Nat.testBit_zero]

theorem misaligned_eq_true_iff (w : Width) (a : Word) : misaligned w a = true ↔ w = .word ∧ a.toNat % 2 = 1 := by
  rw [misaligned, Bool.and_eq_true, decide_eq_true_iff, getLsbD_zero_eq_true_iff]

theorem misaligned_eq_false_iff (w : Width) (a : Word) : misaligned w a = false ↔ (w = .word → a.toNat % 2 = 0) := by
  rw [← Bool.not_eq_true, misaligned_eq_true_iff, not_and]
  exact imp_congr_right fun _ => by omega

theorem isProtected_eq_true_iff (c : Chip) (b : Word) :
    isProtected c b = true ↔ ∃ p ∈ c.protectedRam, p.1.toNat ≤ b.toNat ∧ b.toNat ≤ p.2.toNat := by
  simp [isProtected]

theorem accessProtected_eq_true_iff (c : Chip) (w : Width) (a : Word) : accessProtected c w a = true ↔
    ∃ b ∈ touched w a, ∃ p ∈ c.protectedRam, p.1.toNat ≤ b.toNat ∧ b.toNat ≤ p.2.toNat := by
  cases w <;> simp only [accessProtected, touched, Bool.or_eq_true, isProtected_eq_true_iff, List.mem_cons,
    List.not_mem_nil, or_false, exists_eq_or_imp, exists_eq_left]

theorem accessProtected_eq_false_iff (c : Chip) (w : Width) (a : Word) : accessProtected c w a = false ↔
    ∀ b ∈ touched w a, ∀ p ∈ c.protectedRam, ¬ (p.1.toNat ≤ b.toNat ∧ b.toNat ≤ p.2.toNat) := by
  rw [← Bool.not_eq_true, accessProtected_eq_true_iff]
  push Not
  rfl

theorem ownOffset_eq_none_iff (c : Chip) (a : Word) :
    ownOffset c a = none ↔ a.toNat < c.xgateBase.toNat ∨ c.xgateBase.toNat + 0x39 < a.toNat := by
  unfold ownOffset
  split_ifs with hinside
  · simp only [false_iff]
    simp at hinside
    omega
  · simp at hinside
    simp only [true_iff]
    omega

/-- In the block the offset is the distance from its first byte. -/
theorem ownOffset_of_mem {c : Chip} {a : Word} (hlow : c.xgateBase.toNat ≤ a.toNat)
    (hhigh : a.toNat ≤ c.xgateBase.toNat + 0x39) :
    ownOffset c a = some (BitVec.ofNat 6 (a.toNat - c.xgateBase.toNat)) := by
  simp [ownOffset, hlow, hhigh]

/-- The condition on an access to RAM, in the terms of the model's own checks. -/
theorem ramReady_iff (s : State) (w : Width) (a : Word) : ramReady s w a ↔
    misaligned w a = false ∧ space s.chip a = .ram ∧ accessProtected s.chip w a = false := by
  rw [misaligned_eq_false_iff, space_eq_ram_iff, accessProtected_eq_false_iff]
  exact ⟨fun ⟨haligned, hram, hunprotected⟩ => ⟨haligned, hram, hunprotected⟩,
    fun ⟨haligned, hram, hunprotected⟩ => ⟨haligned, hram, hunprotected⟩⟩

theorem deviceReady_iff (s : State) (w : Width) (a : Word) : deviceReady s w a ↔
    misaligned w a = false ∧ space s.chip a = .register ∧ ownOffset s.chip a = none := by
  rw [misaligned_eq_false_iff, space_eq_register_iff, ownOffset_eq_none_iff]
  exact ⟨fun ⟨haligned, hspace, houtside⟩ => ⟨haligned, hspace, houtside⟩,
    fun ⟨haligned, hspace, houtside⟩ => ⟨haligned, hspace, houtside⟩⟩

theorem accessErrs_iff (s : State) (w : Width) (a : Word) :
    accessErrs s w a ↔ misaligned w a = true ∨ space s.chip a = .unmapped := by
  rw [misaligned_eq_true_iff, space_eq_unmapped_iff, accessErrs]

/-! ## What a software error leaves (R352, R355) -/

/-- The record of an illegal access says what the claims about it ask, place by place (R90, R93, R352). -/
theorem issued_illegalRecord {s t : State} {a : Word} (hperiph : t.periph = illegalRecord a s) : s.issued t a := by
  have hodd := getLsbD_zero_eq_true_iff a
  have hown := ownOffset_eq_none_iff s.chip a
  rw [illegalRecord] at hperiph
  refine ⟨fun habove => ?elsewhere, fun hspace heven houtside => ?fetch, fun heven hlow hhigh => ?ownBlock,
    fun hspace hmis => ?misaligned⟩
  case elsewhere => rwa [if_pos (by rw [ne_eq, space_eq_register_iff]; omega)] at hperiph
  case fetch =>
    rwa [if_neg (by rw [ne_eq, not_not, space_eq_register_iff]; omega), if_neg (by rw [hodd]; omega),
      if_neg (by rw [hown.mpr houtside]; simp)] at hperiph
  case ownBlock =>
    split_ifs at hperiph with hspace hone hsome
    · exact hperiph
    · exact absurd (hodd.mp hone) (by omega)
    · exact hperiph
    · exact absurd (ownOffset_of_mem hlow hhigh) (by simp [Option.not_isSome_iff_eq_none.mp hsome])
  case misaligned =>
    rw [if_neg (by rw [ne_eq, not_not, space_eq_register_iff]; omega), if_pos (hodd.mpr hmis)] at hperiph
    exact ⟨_, hperiph⟩

/-- A software error after the illegal access that caused it. -/
theorem raised_softwareError (which : List Reg) (a : Word) (s : State) :
    s.raised (softwareError which (illegalAccess a s)) which a where
  flag := rfl
  others q hq := by simp [reg_softwareError, hq, reg_illegalAccess]
  flags := rfl
  rest := rfl
  bus := issued_illegalRecord rfl
  ram _ := rfl

/-- In RAM there is no device, so an error there records no access (R93). -/
theorem illegalAccess_of_ram {a : Word} {s : State} (hram : space s.chip a = .ram) : illegalAccess a s = s := by
  have hrecord : illegalRecord a s = s.periph := by simp [illegalRecord, hram]
  rw [illegalAccess, hrecord]

/-! ## Fetches (R97) -/

theorem fetchWord_of_ramReady {s : State} {a : Word} (h : ramReady s .word a) : fetchWord a s = .ok (s.ramWord a) := by
  obtain ⟨haligned, hram, hunprotected⟩ := (ramReady_iff s .word a).mp h
  have heven : a.getLsbD 0 = false := by simpa only [misaligned, decide_true, Bool.true_and] using haligned
  simp only [fetchWord, heven, hram, hunprotected, Bool.false_eq_true, if_false]

/-- A fetch that is odd or outside RAM is an error whatever the chip protects. -/
theorem fetchWord_of_bad {s : State} {a : Word}
    (h : a.toNat % 2 = 1 ∨ a.toNat < 0x10000 - min s.chip.ramSize 0xF800) : ∃ e, fetchWord a s = .error (.error e) := by
  rcases Bool.eq_false_or_eq_true (a.getLsbD 0) with hodd | heven
  · exact ⟨.misalignedFetch, by simp only [fetchWord, hodd, if_true]⟩
  · have hnot_odd := mt (getLsbD_zero_eq_true_iff a).mpr (ne_true_of_eq_false heven)
    cases hspace : space s.chip a with
    | ram => exact absurd ((space_eq_ram_iff s.chip a).mp hspace) (by omega)
    | register => exact ⟨.fetchFromRegisterSpace, by simp only [fetchWord, heven, hspace, Bool.false_eq_true, if_false]⟩
    | unmapped => exact ⟨.fetchFromUnmapped, by simp only [fetchWord, heven, hspace, Bool.false_eq_true, if_false]⟩

theorem toNat_ramWord (s : State) (a : Word) : (s.ramWord a).toNat = ramNumber s .word a := toNat_joinBytes _ _

theorem ofNat_ramNumber (s : State) (a : Word) : BitVec.ofNat 16 (ramNumber s .word a) = s.ramWord a := by
  rw [← toNat_ramWord, BitVec.ofNat_toNat, BitVec.setWidth_eq]

theorem executeOne_of_bad {s : State} (h : s.pc.toNat % 2 = 1 ∨ s.pc.toNat < 0x10000 - min s.chip.ramSize 0xF800) :
    executeOne s = .next (softwareError [] (illegalAccess s.pc s)) := by
  obtain ⟨e, he⟩ := fetchWord_of_bad h
  rw [executeOne, he]
  rfl

theorem executeOne_of_top {s : State} (htop : s.pc = 0xFFFE) (hready : ramReady s .word s.pc) :
    executeOne s = .next (softwareError (unspecifiedAtTop (s.ramWord s.pc)) (illegalAccess 0x0000 s)) := by
  rw [executeOne, fetchWord_of_ramReady hready]
  exact if_pos htop

theorem executeOne_of_ready {s : State} (htop : s.pc ≠ 0xFFFE) (hready : ramReady s .word s.pc) :
    executeOne s = match decodeWord (s.ramWord s.pc) with
      | .error _ => .next (softwareError [] s)
      | .ok i => exec i s := by
  rw [executeOne, fetchWord_of_ramReady hready]
  exact if_neg htop

/-- Settles O4: the decoder's two answers, the count block by block, and an illegal word at a place the core can fetch. -/
theorem illegalWordsAreThoseOfTheTable : Obligations.IllegalWordsAreThoseOfTheTable := by
  refine ⟨decodeWord_eq_illegal_iff, exists_decodeWord_iff, length_filter_illegalNumber, fun s hready htop hillegal => ?_⟩
  have hram : space s.chip s.pc = .ram := ((ramReady_iff s .word s.pc).mp hready).2.1
  have hdecode : decodeWord (s.ramWord s.pc) = .error (.illegalOpcode (s.ramWord s.pc)) := by
    rwa [decodeWord_eq_illegal_iff, toNat_ramWord]
  refine ⟨softwareError [] s, ?_, ?_⟩
  · rw [executeOne_of_ready htop hready, hdecode]
  · have hraised := raised_softwareError [] s.pc s
    rwa [illegalAccess_of_ram hram] at hraised

/-! ## Vector fetches (R98, R100, R101) -/

theorem vecRead_of_ramReady {s : State} {a : Word} (h : ramReady s .word a) : vecRead a s = .ok (s.ramWord a) := by
  obtain ⟨-, hram, hunprotected⟩ := (ramReady_iff s .word a).mp h
  simp [vecRead, hram, hunprotected]

theorem vecRead_of_bad {s : State} {a : Word} (h : a.toNat < 0x10000 - min s.chip.ramSize 0xF800) :
    ∃ e, vecRead a s = .error (.error e) := by
  unfold vecRead
  split
  case h_1 hspace => exact absurd ((space_eq_ram_iff s.chip a).mp hspace) (by omega)
  case h_2 => exact ⟨_, rfl⟩
  case h_3 => exact ⟨_, rfl⟩

/-- XGVBR[15:1]:0 is the word without its lowest bit. -/
theorem vectorBase_eq_shift (s : State) : vectorBase s = (s.xgvbr.extractLsb' 0 16 >>> 1) <<< 1 := by
  have hmask : (0xFFFE : Word) = BitVec.allOnes 16 <<< 1 := rfl
  apply BitVec.eq_of_getLsbD_eq
  intro i hi
  rw [vectorBase, hmask, BitVec.getLsbD_and, BitVec.getLsbD_shiftLeft, BitVec.getLsbD_shiftLeft, BitVec.getLsbD_allOnes,
    BitVec.getLsbD_ushiftRight]
  rcases Nat.eq_zero_or_pos i with rfl | hpos
  · simp
  · have hplace : 1 + (i - 1) = i := by omega
    have hinside : i - 1 < 16 := by omega
    simp [hi, hplace, hinside, Nat.not_lt.mpr hpos]

theorem vectorAddress_eq_ofNat (n : BitVec 7) (s : State) :
    vectorAddress s n = BitVec.ofNat 16 (s.xgvbr.toNat % 0x10000 / 2 * 2 + 4 * n.toNat) := by
  apply BitVec.eq_of_toNat_eq
  have hn : n.toNat < 128 := n.isLt
  rw [vectorAddress, vectorBase_eq_shift]
  simp [Nat.shiftRight_eq_div_pow, Nat.shiftLeft_eq]

theorem startThread_of_bad_first {n : BitVec 7} {s : State}
    (h : (vectorAddress s n).toNat < 0x10000 - min s.chip.ramSize 0xF800) :
    startThread n s =
      .next (softwareError [.r1] (illegalAccess (vectorAddress s n) { s with xgchid := n })) := by
  obtain ⟨e, he⟩ := vecRead_of_bad (s := { s with xgchid := n }) h
  have hva : vectorAddress { s with xgchid := n } n = vectorAddress s n := rfl
  simp only [startThread, hva, he]
  rfl

theorem startThread_of_bad_second {n : BitVec 7} {s : State} (hfirst : ramReady s .word (vectorAddress s n))
    (h : (vectorAddress s n + 2).toNat < 0x10000 - min s.chip.ramSize 0xF800) :
    startThread n s =
      .next (softwareError [.r1] (illegalAccess (vectorAddress s n + 2) { s with xgchid := n })) := by
  obtain ⟨e, he⟩ := vecRead_of_bad (s := { s with xgchid := n }) h
  have hfirst' : ramReady { s with xgchid := n } .word (vectorAddress s n) := ⟨hfirst.1, hfirst.2, hfirst.3⟩
  have hva : vectorAddress { s with xgchid := n } n = vectorAddress s n := rfl
  simp only [startThread, hva, vecRead_of_ramReady hfirst', he]
  rfl

theorem startThread_of_ready {n : BitVec 7} {s : State} (hfirst : ramReady s .word (vectorAddress s n))
    (hsecond : ramReady s .word (vectorAddress s n + 2)) :
    startThread n s = .next { s with
      xgchid := n, pc := s.ramWord (vectorAddress s n), regs := threadRegs s.draws (s.ramWord (vectorAddress s n + 2))
      ccr := CCR.ofBits (Config.freeCcr s.draws), draws := s.draws + 1 } := by
  have hfirst' : ramReady { s with xgchid := n } .word (vectorAddress s n) := ⟨hfirst.1, hfirst.2, hfirst.3⟩
  have hsecond' : ramReady { s with xgchid := n } .word (vectorAddress s n + 2) := ⟨hsecond.1, hsecond.2, hsecond.3⟩
  have hva : vectorAddress { s with xgchid := n } n = vectorAddress s n := rfl
  simp only [startThread, hva, vecRead_of_ramReady hfirst', vecRead_of_ramReady hsecond']
  rfl

/-- Settles O45: both vector words are read and the thread starts with them; the two words are four bytes in a row. -/
theorem threadStartLoadsTheVector : Obligations.ThreadStartLoadsTheVector := by
  intro n s v hv hfits hfirst hsecond
  have hva : vectorAddress s n = BitVec.ofNat 16 v := by rw [vectorAddress_eq_ofNat, hv]
  have hvb : vectorAddress s n + 2 = BitVec.ofNat 16 (v + 2) := by rw [hva, BitVec.ofNat_add]; rfl
  rw [← hva] at hfirst ⊢
  rw [← hvb] at hsecond ⊢
  exact ⟨_, startThread_of_ready hfirst hsecond, rfl, toNat_ramWord s _, toNat_ramWord s _, rfl, fun _ => rfl⟩

/-- Settles O47: the three places of a failing access; at $FFFE the open registers are those of the word that stands
there. -/
theorem badFetchesRaiseASoftwareError : Obligations.BadFetchesRaiseASoftwareError := by
  refine ⟨fun s hbad => ⟨_, executeOne_of_bad hbad, raised_softwareError [] s.pc s⟩, fun s htop hready => ?top,
    fun n s a ha => ?vector⟩
  case top =>
    rw [ofNat_ramNumber]
    refine ⟨fun i hi => ⟨_, executeOne_of_top htop hready, ?_⟩, fun hnone => ⟨_, executeOne_of_top htop hready, ?_⟩⟩
    · rw [unspecifiedAtTop, hi]
      exact raised_softwareError _ _ s
    · rw [unspecifiedAtTop]
      cases hdecode : decodeWord (s.ramWord s.pc) with
      | ok i => exact absurd hdecode (hnone i)
      | error e => exact raised_softwareError _ _ s
  case vector =>
    rw [← vectorAddress_eq_ofNat] at ha
    subst ha
    exact ⟨fun hfirst => ⟨_, startThread_of_bad_first hfirst, rfl, raised_softwareError _ _ _⟩,
      fun hready hsecond => ⟨_, startThread_of_bad_second hready hsecond, rfl, raised_softwareError _ _ _⟩⟩

end Sys2Proof.Machine
end

section
/-! The sixteen forms of LDB, LDW, STB and STW as one load and one store with the index written after the access, and what
they do in RAM, at a peripheral, at XGSWT and where the access fails (40_load_store.md). -/

namespace Sys2Proof.Machine

/-! ## The index register and the access do not touch -/

theorem Regs.ext_get {a b : Regs} (h : ∀ q, a.get q = b.get q) : a = b := by
  cases a
  cases b
  have h1 := h .r1
  have h2 := h .r2
  have h3 := h .r3
  have h4 := h .r4
  have h5 := h .r5
  have h6 := h .r6
  have h7 := h .r7
  simp_all [Regs.get]

/-- Writing a register the value it has changes nothing. -/
theorem setReg_self {s t : State} (hregs : t.regs = s.regs) (r : Reg) : t.setReg r (s.reg r) = t := by
  have hset : t.regs.set r (s.regs.get r) = t.regs := by
    refine Regs.ext_get fun q => ?_
    rw [Regs.get_set, hregs]
    split_ifs with hq
    · rw [hq.1]
    · rfl
  simp only [State.setReg, State.reg, hset]

/-- A register that ends with a free value may as well have been written before (R355). -/
theorem scramble_set {r : Reg} {which : List Reg} (hr : r ∈ which) (rs : Regs) (draw : Nat) (v : Word) :
    (rs.set r v).scramble draw which = rs.scramble draw which := by
  refine Regs.ext_get fun q => ?_
  rw [Regs.get_scramble, Regs.get_scramble, Regs.get_set]
  by_cases hq : q = r
  · subst hq
    by_cases hzero : q = .r0 <;> simp [hr, hzero]
  · simp [hq]

theorem stopAt_setReg {r : Reg} {which : List Reg} (hr : r ∈ which) (a v : Word) (s : State) (e : Stop) :
    stopAt which a (s.setReg r v) e = stopAt which a s e := by
  cases e with
  | refused _ => rfl
  | error _ =>
    have hregs := scramble_set hr s.regs s.draws v
    simp only [stopAt, softwareError, illegalAccess, illegalRecord, setReg_regs, setReg_draws, setReg_chip, setReg_periph]
    rw [hregs]
    rfl

theorem registerRead_setReg (w : Width) (a : Word) (s : State) (r : Reg) (x : Word) :
    registerRead w a (s.setReg r x) = (registerRead w a s).map fun p => (p.1, p.2.setReg r x) := by
  unfold registerRead
  rw [setReg_chip]
  split
  · rfl
  · split_ifs <;> rfl

/-- A read neither depends on a general register nor writes one. -/
theorem memRead_setReg (w : Width) (a : Word) (s : State) (r : Reg) (x : Word) :
    memRead w a (s.setReg r x) = (memRead w a s).map fun p => (p.1, p.2.setReg r x) := by
  have hread : (s.setReg r x).ramRead w a = s.ramRead w a := by cases w <;> rfl
  unfold memRead
  rw [setReg_chip, hread, registerRead_setReg]
  cases misaligned w a <;> cases space s.chip a <;> cases accessProtected s.chip w a <;> rfl

theorem regs_of_memRead {w : Width} {a v : Word} {s t : State} (h : memRead w a s = .ok (v, t)) : t.regs = s.regs := by
  rcases memRead_cases w a s with ⟨-, hm⟩ | ⟨-, -, hm⟩ | ⟨-, -, -, hm⟩ | ⟨-, -, -, hm⟩ | ⟨-, -, hm⟩ <;> rw [hm] at h
  · cases h
  · cases h
  · cases h
  · cases h
    rfl
  · rcases registerRead_cases w a s with ⟨-, hr⟩ | ⟨_, -, hr⟩ | ⟨_, -, -, -, hr⟩ <;> rw [hr] at h <;> cases h <;> rfl

theorem registerWrite_setReg (w : Width) (a v : Word) (s : State) (r : Reg) (x : Word) :
    registerWrite w a v (s.setReg r x) = (registerWrite w a v s).map fun t => t.setReg r x := by
  unfold registerWrite
  rw [setReg_chip]
  split
  · rfl
  · split_ifs <;> cases w <;> rfl

/-- The same for a write. -/
theorem memWrite_setReg (w : Width) (a v : Word) (s : State) (r : Reg) (x : Word) :
    memWrite w a v (s.setReg r x) = (memWrite w a v s).map fun t => t.setReg r x := by
  have hwrite : (s.setReg r x).ramWrite w a v = (s.ramWrite w a v).setReg r x := by cases w <;> rfl
  have hprefetched : writesPrefetched w a (s.setReg r x) = writesPrefetched w a s := rfl
  unfold memWrite
  rw [setReg_chip, hwrite, hprefetched, registerWrite_setReg]
  cases misaligned w a <;> cases space s.chip a <;> cases accessProtected s.chip w a <;>
    cases writesPrefetched w a s <;> rfl

theorem regs_of_memWrite {w : Width} {a v : Word} {s t : State} (h : memWrite w a v s = .ok t) : t.regs = s.regs := by
  rcases memWrite_cases w a v s with ⟨-, hm⟩ | ⟨-, -, hm⟩ | ⟨-, -, -, hm⟩ | ⟨-, -, -, -, hm⟩ | ⟨-, -, -, -, hm⟩ |
    ⟨-, -, hm⟩ <;> rw [hm] at h
  · cases h
  · cases h
  · cases h
  · cases h
  · cases h
    exact ramWrite_regs s w a v
  · rcases registerWrite_cases w a v s with ⟨-, hr⟩ | ⟨-, hr⟩ | ⟨_, -, -, -, hr⟩ <;> rw [hr] at h <;> cases h
    · rfl
    · cases w <;> rfl

theorem loadInto_congr {w : Width} {rd : Reg} {a : Word} {which : List Reg} {post post' : State → State} {s : State}
    (hpost : ∀ t, t.regs = s.regs → post t = post' t) :
    loadInto w rd a which post s = loadInto w rd a which post' s := by
  unfold loadInto
  cases hread : memRead w a s with
  | ok p => simp only [hpost p.2 (regs_of_memRead hread)]
  | error e => rfl

theorem storeAt_congr {w : Width} {v a : Word} {which : List Reg} {post post' : State → State} {s : State}
    (hpost : ∀ t, t.regs = s.regs → post t = post' t) :
    storeAt w v a which post s = storeAt w v a which post' s := by
  unfold storeAt
  cases hwrite : memWrite w a v s with
  | ok t => simp only [hpost t (regs_of_memWrite hwrite)]
  | error e => rfl

/-- A load after an index update is the load with the update after the access, whatever index a
failing access leaves. -/
theorem loadInto_setReg {w : Width} {rd ri : Reg} {a : Word} {which : List Reg} (hri : ri ∈ which) (x : Word) (s : State) :
    loadInto w rd a which id (s.setReg ri x) = loadInto w rd a which (fun t => t.setReg ri x) s := by
  unfold loadInto
  rw [memRead_setReg]
  cases memRead w a s with
  | ok p => rfl
  | error e => exact stopAt_setReg hri a x s e

theorem storeAt_setReg {w : Width} {ri : Reg} {v a : Word} {which : List Reg} (hri : ri ∈ which) (x : Word) (s : State) :
    storeAt w v a which id (s.setReg ri x) = storeAt w v a which (fun t => t.setReg ri x) s := by
  unfold storeAt
  rw [memWrite_setReg]
  cases memWrite w a v s with
  | ok t => rfl
  | error e => exact stopAt_setReg hri a x s e

/-! ## The forms as one load and one store -/

theorem postIncrement_of_regs {s t : State} (hregs : t.regs = s.regs) (w : Width) (ri : Reg) :
    postIncrement w ri t = t.setReg ri (s.reg ri + accessSize w) := by
  rw [postIncrement, State.reg, State.reg, hregs]

theorem mayPreDecrement_of {rb ri : Reg} (h : ri = .r0 ∨ ri ≠ rb) : rb.mayPreDecrement ri = true := by
  simpa [Reg.mayPreDecrement] using h

/-- Every load form is the load of its width from its address, with RI written after the access (R161 to R164, R176). -/
theorem exec_loadForm {s : State} {rd rb ri : Reg} {off : BitVec 5} {e : MemoryForm} (he : e ∈ loadForms s rd rb ri off) :
    exec e.instr s = loadInto e.width rd e.address (resultRegs e.instr) (fun t => t.setReg ri e.index) s := by
  have hkeep (w : Width) (a : Word) (which : List Reg) :
      loadInto w rd a which id s = loadInto w rd a which (fun t => t.setReg ri (s.reg ri)) s :=
    loadInto_congr fun t ht => (setReg_self ht ri).symm
  have hinc (w : Width) (a : Word) (which : List Reg) : loadInto w rd a which (postIncrement w ri) s =
      loadInto w rd a which (fun t => t.setReg ri (s.reg ri + accessSize w)) s :=
    loadInto_congr fun t ht => postIncrement_of_regs ht w ri
  have hdec (w : Width) (hmay : ri = .r0 ∨ ri ≠ rb) : loadDec w rd rb ri s =
      loadInto w rd (eaIndexed (preDecrement w ri s) rb ri) [rd, ri] (fun t => t.setReg ri (s.reg ri - accessSize w)) s := by
    rw [loadDec, if_pos (mayPreDecrement_of hmay)]
    exact loadInto_setReg (by simp) _ s
  simp only [loadForms, List.mem_append, List.mem_cons, List.not_mem_nil, or_false] at he
  rcases he with (rfl | rfl | rfl | rfl | rfl | rfl) | hdecForm
  · exact hkeep .byte _ _
  · exact hkeep .word _ _
  · exact hkeep .byte _ _
  · exact hkeep .word _ _
  · exact hinc .byte _ _
  · exact hinc .word _ _
  · split_ifs at hdecForm with hmay
    · simp only [List.mem_cons, List.not_mem_nil, or_false] at hdecForm
      rcases hdecForm with rfl | rfl
      · exact hdec .byte hmay
      · exact hdec .word hmay
    · exact absurd hdecForm List.not_mem_nil

/-- Every store form is the store of its width to its address, with RI written after the access (R161 to R164, R177). -/
theorem exec_storeForm {s : State} {rs rb ri : Reg} {off : BitVec 5} {e : MemoryForm}
    (he : e ∈ storeForms s rs rb ri off) :
    exec e.instr s = storeAt e.width (s.reg rs) e.address (resultRegs e.instr) (fun t => t.setReg ri e.index) s := by
  have hkeep (w : Width) (a : Word) (which : List Reg) :
      storeAt w (s.reg rs) a which id s = storeAt w (s.reg rs) a which (fun t => t.setReg ri (s.reg ri)) s :=
    storeAt_congr fun t ht => (setReg_self ht ri).symm
  have hinc (w : Width) (a : Word) (which : List Reg) : storeAt w (s.reg rs) a which (postIncrement w ri) s =
      storeAt w (s.reg rs) a which (fun t => t.setReg ri (s.reg ri + accessSize w)) s :=
    storeAt_congr fun t ht => postIncrement_of_regs ht w ri
  have hdec (w : Width) (hmay : ri = .r0 ∨ ri ≠ rb) : storeDec w rs rb ri s =
      storeAt w (s.reg rs) (eaIndexed (preDecrement w ri s) rb ri) [ri]
        (fun t => t.setReg ri (s.reg ri - accessSize w)) s := by
    rw [storeDec, if_pos (mayPreDecrement_of hmay)]
    exact storeAt_setReg (by simp) _ s
  simp only [storeForms, List.mem_append, List.mem_cons, List.not_mem_nil, or_false] at he
  rcases he with (rfl | rfl | rfl | rfl | rfl | rfl) | hdecForm
  · exact hkeep .byte _ _
  · exact hkeep .word _ _
  · exact hkeep .byte _ _
  · exact hkeep .word _ _
  · exact hinc .byte _ _
  · exact hinc .word _ _
  · split_ifs at hdecForm with hmay
    · simp only [List.mem_cons, List.not_mem_nil, or_false] at hdecForm
      rcases hdecForm with rfl | rfl
      · exact hdec .byte hmay
      · exact hdec .word hmay
    · exact absurd hdecForm List.not_mem_nil

end Sys2Proof.Machine
end

section
/-! What the sixteen forms of LDB, LDW, STB and STW do in RAM, at a peripheral, at XGSWT, and where the access fails or has
no meaning (40_load_store.md, 20_memory.md). -/

namespace Sys2Proof.Machine

/-! ## Registers after a load and after a store -/

theorem reg_setReg_eq_written (s : State) (r : Reg) (v : Word) : (s.setReg r v).reg r = written r v := by
  by_cases hr : r = .r0 <;> simp [written, hr]

/-- The registers after a load whose access left them, the flags and pc as they were. -/
theorem loaded_setReg {s t : State} (hregs : t.regs = s.regs) (hccr : t.ccr = s.ccr) (hpc : t.pc = s.pc)
    (rd ri : Reg) (v index : Word) : s.loaded ((t.setReg ri index).setReg rd v).advance rd ri v index where
  dest := reg_setReg_eq_written _ rd v
  indexReg hne := by rw [reg_advance, reg_setReg_other _ _ _ _ hne, reg_setReg_eq_written]
  others q hd hi := by
    rw [reg_advance, reg_setReg_other _ _ _ _ hd, reg_setReg_other _ _ _ _ hi, State.reg, hregs]
    rfl
  flags := hccr
  pc := by rw [advance_pc, setReg_pc, setReg_pc, hpc]

/-- The registers after a store whose access left them, the flags and pc as they were. -/
theorem storedRegs_setReg {s t : State} (hregs : t.regs = s.regs) (hccr : t.ccr = s.ccr) (hpc : t.pc = s.pc)
    (ri : Reg) (index : Word) : s.storedRegs (t.setReg ri index).advance ri index where
  indexReg := reg_setReg_eq_written _ ri index
  others q hi := by
    rw [reg_advance, reg_setReg_other _ _ _ _ hi, State.reg, hregs]
    rfl
  flags := hccr
  pc := by rw [advance_pc, setReg_pc, hpc]

/-! ## Loads from RAM -/

theorem memRead_of_ramReady {s : State} {w : Width} {a : Word} (h : ramReady s w a) :
    memRead w a s = .ok (s.ramRead w a, s) := by
  obtain ⟨haligned, hram, hunprotected⟩ := (ramReady_iff s w a).mp h
  simp only [memRead, haligned, hram, hunprotected, Bool.false_eq_true, if_false]

theorem ramRead_eq_ofNat (s : State) (w : Width) (a : Word) : s.ramRead w a = BitVec.ofNat 16 (ramNumber s w a) := by
  cases w with
  | byte => exact (BitVec.ofNat_toNat 16 (s.ramByte a)).symm
  | word => exact (ofNat_ramNumber s a).symm

/-- Settles O32: the access completes with RAM's value and changes nothing; then RI and RD are written. -/
theorem loadsFromRam : Obligations.LoadsFromRam := by
  intro s rd rb ri off e he hready
  rw [exec_loadForm he, loadInto, memRead_of_ramReady hready, ramRead_eq_ofNat]
  exact ⟨_, rfl, loaded_setReg rfl rfl rfl rd ri _ _, rfl, fun _ => rfl⟩

/-! ## Stores to RAM -/

theorem accessTouches_eq_true_iff (w : Width) (a b : Word) : accessTouches w a b = true ↔ b ∈ touched w a := by
  cases w <;> simp [accessTouches, touched, @eq_comm _ b]

theorem writesPrefetched_of_clear {s : State} {w : Width} {a : Word} (h : clearOfPrefetch s w a) :
    writesPrefetched w a s = false := by
  rcases Bool.eq_false_or_eq_true s.xgdbg with hhalted | hrunning
  · simp [writesPrefetched, hhalted]
  · have hfirst : accessTouches w a (s.pc + 2) = false := by
      rw [← Bool.not_eq_true, accessTouches_eq_true_iff]
      exact fun hmem => (h hrunning _ hmem).1 rfl
    have hsecond : accessTouches w a (s.pc + 3) = false := by
      rw [← Bool.not_eq_true, accessTouches_eq_true_iff]
      exact fun hmem => (h hrunning _ hmem).2 rfl
    rw [writesPrefetched, hfirst, hsecond, Bool.or_self, Bool.and_false]

theorem memWrite_of_ramReady {s : State} {w : Width} {a : Word} (h : ramReady s w a) (hclear : clearOfPrefetch s w a)
    (v : Word) : memWrite w a v s = .ok (s.ramWrite w a v) := by
  obtain ⟨haligned, hram, hunprotected⟩ := (ramReady_iff s w a).mp h
  simp only [memWrite, haligned, hram, hunprotected, writesPrefetched_of_clear hclear, Bool.false_eq_true, if_false]

theorem toNat_highByte (w : Word) : (highByte w).toNat = w.toNat / 256 := by
  have hw := w.isLt
  rw [highByte, toNat_extractLsb']
  omega

theorem globalByte_setRamByte_other (s : State) {a : Word} (v : Byte) {g : BitVec 20}
    (hg : g ≠ globalAddress s.chip s.xgvbr a) : (s.setRamByte a v).globalByte g = s.globalByte g :=
  globalByte_setGlobalByte_other s v hg.symm

/-- `ramWrite` stores the value's bytes at their places and leaves every other byte of RAM (R91, R92). -/
theorem storedRam_ramWrite (s : State) (w : Width) (a v : Word) : s.storedRam (s.ramWrite w a v) w a v := by
  cases w with
  | byte =>
    refine ⟨fun _ => ?_, nofun, fun g hg => globalByte_setRamByte_other s _ (hg a (by simp [touched]))⟩
    rw [State.ramWrite, ramByte_setRamByte_same, toNat_lowByte]
  | word =>
    refine ⟨nofun, fun _ => ⟨?_, ?_⟩, fun g hg => ?_⟩
    · rw [State.ramWrite, State.setRamWord, ramByte_setRamByte_other _ _ (add_one_ne a), ramByte_setRamByte_same,
        toNat_highByte]
    · rw [State.ramWrite, State.setRamWord, ramByte_setRamByte_same, toNat_lowByte]
    · exact (globalByte_setRamByte_other (s.setRamByte a (highByte v)) _ (hg (a + 1) (by simp [touched]))).trans
        (globalByte_setRamByte_other s _ (hg a (by simp [touched])))

/-- Settles O33: the access completes and writes RAM alone; then RI is written. -/
theorem storesToRam : Obligations.StoresToRam := by
  intro s rs rb ri off e he hready hclear
  rw [exec_storeForm he, storeAt, memWrite_of_ramReady hready hclear]
  obtain ⟨hbyte, hword, hothers⟩ := storedRam_ramWrite s e.width e.address (s.reg rs)
  refine ⟨_, rfl, storedRegs_setReg (ramWrite_regs _ _ _ _) (ramWrite_ccr _ _ _ _) (ramWrite_pc _ _ _ _) ri _,
    ⟨hbyte, hword, hothers⟩, ?frame⟩
  case frame => cases e.width <;> rfl

/-! ## Bytes and words at one address (R85) -/

/-- Writing R0 leaves every register, so a store with RI = R0 does. -/
theorem storedRegs_r0 {s t : State} {index : Word} (h : s.storedRegs t .r0 index) (q : Reg) : t.reg q = s.reg q := by
  by_cases hq : q = .r0
  · rw [hq]
    rfl
  · exact h.others q hq

/-- A byte that a store does not touch reads as before. -/
theorem ramByte_of_storedRam {s t : State} {w : Width} {a v b : Word} (h : s.storedRam t w a v)
    (hchip : t.chip = s.chip) (hvbr : t.xgvbr = s.xgvbr) (hb : b ∉ touched w a) : t.ramByte b = s.ramByte b := by
  rw [State.ramByte, hchip, hvbr]
  exact h.others _ fun b' hb' heq => hb (globalAddress_injective _ _ heq ▸ hb')

theorem ramReady_of_chip {s t : State} {w : Width} {a : Word} (hchip : t.chip = s.chip) (h : ramReady s w a) :
    ramReady t w a := by
  rwa [ramReady_iff, hchip, ← ramReady_iff]

/-- Both bytes of an aligned word in RAM are in RAM; the word does not wrap, as its address is even. -/
theorem ramReady_bytes {s : State} {a : Word} (h : ramReady s .word a) :
    ramReady s .byte a ∧ ramReady s .byte (a + 1) := by
  obtain ⟨haligned, hram, hunprotected⟩ := h
  have hnext : (a + 1).toNat = a.toNat + 1 := by
    have heven := haligned rfl
    rw [BitVec.toNat_add]
    simp
    omega
  refine ⟨⟨nofun, hram, fun b hb => hunprotected b ?_⟩, ⟨nofun, by omega, fun b hb => hunprotected b ?_⟩⟩
  · simp_all [touched]
  · simp_all [touched]

/-- A store away from the next eight bytes leaves the prefetched word alone, also after one more instruction. -/
theorem clearOfPrefetch_of_distant {s : State} {w : Width} {a b pc : Word}
    (hdistant : ∀ k, k < 8 → a ≠ pc + BitVec.ofNat 16 k ∧ a + 1 ≠ pc + BitVec.ofNat 16 k)
    (htouched : ∀ x ∈ touched w b, x = a ∨ x = a + 1) (hpc : s.pc = pc ∨ s.pc = pc + 2) : clearOfPrefetch s w b := by
  have h2 := hdistant 2 (by decide)
  have h3 := hdistant 3 (by decide)
  have h4 := hdistant 4 (by decide)
  have h5 := hdistant 5 (by decide)
  have hfour : pc + 2 + 2 = pc + BitVec.ofNat 16 4 := by rw [add_assoc]; rfl
  have hfive : pc + 2 + 3 = pc + BitVec.ofNat 16 5 := by rw [add_assoc]; rfl
  intro _ x hx
  rcases htouched x hx with rfl | rfl <;> rcases hpc with hpc | hpc <;> rw [hpc]
  · exact ⟨h2.1, h3.1⟩
  · exact ⟨hfour ▸ h4.1, hfive ▸ h5.1⟩
  · exact ⟨h2.2, h3.2⟩
  · exact ⟨hfour ▸ h4.2, hfive ▸ h5.2⟩

theorem eaOffset_zero (s : State) (rb : Reg) : eaOffset s rb 0 = s.reg rb := by simp [eaOffset]

theorem eaOffset_one (s : State) (rb : Reg) : eaOffset s rb 1 = s.reg rb + 1 := rfl

/-- A store at a constant offset, with what it leaves for the next instruction. -/
theorem exec_storeOff {s : State} {instr : Instr} {w : Width} {rs rb : Reg} {off : BitVec 5} {a : Word}
    (hform : ⟨instr, w, eaOffset s rb off, s.reg .r0⟩ ∈ storeForms s rs rb .r0 off) (ha : eaOffset s rb off = a)
    (hready : ramReady s w a) (hclear : clearOfPrefetch s w a) :
    ∃ t, exec instr s = .next t ∧ (∀ q, t.reg q = s.reg q) ∧ t.pc = s.pc + 2 ∧ t.chip = s.chip ∧ t.xgvbr = s.xgvbr ∧
      s.storedRam t w a (s.reg rs) := by
  subst ha
  obtain ⟨t, hexec, hregs, hram, hframe⟩ := storesToRam s rs rb .r0 off _ hform hready hclear
  have hchip : t.chip = s.chip := by rw [← hframe]
  have hvbr : t.xgvbr = s.xgvbr := by rw [← hframe]
  exact ⟨t, hexec, storedRegs_r0 hregs, hregs.pc, hchip, hvbr, hram⟩

/-- A load at a constant offset gives RD what RAM holds there. -/
theorem exec_loadOff {s : State} {instr : Instr} {w : Width} {rd rb : Reg} {off : BitVec 5} {a : Word} (hrd : rd ≠ .r0)
    (hform : ⟨instr, w, eaOffset s rb off, s.reg .r0⟩ ∈ loadForms s rd rb .r0 off) (ha : eaOffset s rb off = a)
    (hready : ramReady s w a) : ∃ t, exec instr s = .next t ∧ (t.reg rd).toNat = ramNumber s w a := by
  subst ha
  obtain ⟨t, hexec, hregs, -, -⟩ := loadsFromRam s rd rb .r0 off _ hform hready
  refine ⟨t, hexec, ?_⟩
  rw [hregs.dest, written, if_neg hrd, ← ramRead_eq_ofNat]
  cases w with
  | byte => exact BitVec.toNat_setWidth_of_le (by decide)
  | word => exact toNat_ramWord s _

/-- The word's two bytes are what two byte loads read. -/
theorem bytes_of_stored_word {s : State} {rd rs rb : Reg} (hrd : rd ≠ .r0) (hready : ramReady s .word (s.reg rb))
    (hclear : clearOfPrefetch s .word (s.reg rb)) :
    ∃ t u v, exec (.stwOff rs rb 0) s = .next t ∧ exec (.ldbOff rd rb 0) t = .next u ∧
      exec (.ldbOff rd rb 1) t = .next v ∧
      (u.reg rd).toNat = (s.reg rs).toNat / 256 ∧ (v.reg rd).toNat = (s.reg rs).toNat % 256 := by
  obtain ⟨hfirst, hsecond⟩ := ramReady_bytes hready
  obtain ⟨t, hstore, hregs, -, hchip, -, hram⟩ := exec_storeOff (instr := .stwOff rs rb 0) (w := .word) (rs := rs)
    (off := 0) (by simp [storeForms]) (eaOffset_zero s rb) hready hclear
  obtain ⟨hhigh, hlow⟩ := hram.word rfl
  obtain ⟨u, hload, hu⟩ := exec_loadOff (instr := .ldbOff rd rb 0) (w := .byte) (off := 0) hrd (by simp [loadForms])
    ((eaOffset_zero t rb).trans (hregs rb)) (ramReady_of_chip hchip hfirst)
  obtain ⟨v, hload', hv⟩ := exec_loadOff (instr := .ldbOff rd rb 1) (w := .byte) (off := 1) hrd (by simp [loadForms])
    ((eaOffset_one t rb).trans (congrArg (· + 1) (hregs rb))) (ramReady_of_chip hchip hsecond)
  exact ⟨t, u, v, hstore, hload, hload', hu.trans hhigh, hv.trans hlow⟩

/-- Two bytes stored in a row are what one word load reads: the second store leaves the first byte. -/
theorem word_of_stored_bytes {s : State} {rd rs rs' rb : Reg} (hrd : rd ≠ .r0) (hready : ramReady s .word (s.reg rb))
    (hclear : clearOfPrefetch s .byte (s.reg rb))
    (hclear' : ∀ t : State, t.pc = s.pc + 2 → clearOfPrefetch t .byte (s.reg rb + 1)) :
    ∃ t u v, exec (.stbOff rs rb 0) s = .next t ∧ exec (.stbOff rs' rb 1) t = .next u ∧
      exec (.ldwOff rd rb 0) u = .next v ∧
      (v.reg rd).toNat = 256 * ((s.reg rs).toNat % 256) + (s.reg rs').toNat % 256 := by
  obtain ⟨hfirst, hsecond⟩ := ramReady_bytes hready
  obtain ⟨t, hstore, hregs, hpc, hchip, hvbr, hram⟩ := exec_storeOff (instr := .stbOff rs rb 0) (w := .byte) (rs := rs)
    (off := 0) (by simp [storeForms]) (eaOffset_zero s rb) hfirst hclear
  obtain ⟨u, hstore', hregs', -, hchip', hvbr', hram'⟩ := exec_storeOff (instr := .stbOff rs' rb 1) (w := .byte)
    (rs := rs') (off := 1) (by simp [storeForms]) ((eaOffset_one t rb).trans (congrArg (· + 1) (hregs rb)))
    (ramReady_of_chip hchip hsecond) (hclear' t hpc)
  obtain ⟨v, hload, hv⟩ := exec_loadOff (instr := .ldwOff rd rb 0) (w := .word) (off := 0) hrd (by simp [loadForms])
    ((eaOffset_zero u rb).trans ((hregs' rb).trans (hregs rb))) (ramReady_of_chip (hchip'.trans hchip) hready)
  have hkept : u.ramByte (s.reg rb) = t.ramByte (s.reg rb) :=
    ramByte_of_storedRam hram' hchip' hvbr' (by simp [touched])
  refine ⟨t, u, v, hstore, hstore', hload, ?_⟩
  rw [hv, ramNumber, hram'.byte rfl, hkept, hram.byte rfl, hregs]

/-- Settles O39: what the stores leave in RAM byte by byte is what the loads then read. -/
theorem wordsAndBytesAgreeBigEndian : Obligations.WordsAndBytesAgreeBigEndian := by
  intro s rd rs rs' rb hrd hready hdistant
  exact ⟨bytes_of_stored_word hrd hready (clearOfPrefetch_of_distant hdistant (by simp [touched]) (.inl rfl)),
    word_of_stored_bytes hrd hready (clearOfPrefetch_of_distant hdistant (by simp [touched]) (.inl rfl))
      fun t hpc => clearOfPrefetch_of_distant hdistant (by simp [touched]) (.inr hpc)⟩

end Sys2Proof.Machine
end

section
/-! Loads and stores at a peripheral and at XGSWT, and the accesses that fail or have no meaning (20_memory.md,
40_load_store.md). -/

namespace Sys2Proof.Machine

/-! ## Peripherals (R94) -/

theorem memRead_of_deviceReady {s : State} {w : Width} {a : Word} (h : deviceReady s w a) :
    memRead w a s = .ok (periphRead .core w a s) := by
  obtain ⟨haligned, hspace, houtside⟩ := (deviceReady_iff s w a).mp h
  simp only [memRead, registerRead, haligned, hspace, houtside, Bool.false_eq_true, if_false]

theorem memWrite_of_deviceReady {s : State} {w : Width} {a : Word} (h : deviceReady s w a) (v : Word) :
    memWrite w a v s = .ok (periphWrite .core w a v s) := by
  obtain ⟨haligned, hspace, houtside⟩ := (deviceReady_iff s w a).mp h
  simp only [memWrite, registerWrite, haligned, hspace, houtside, Bool.false_eq_true, if_false]

/-- The mask of a byte is its low eight ones. -/
theorem toNat_and_ff (v : Word) : (v &&& 0x00FF).toNat = v.toNat % 256 := by
  rw [BitVec.toNat_and]
  exact Nat.and_two_pow_sub_one_eq_mod v.toNat 8

theorem toNat_accessValue (w : Width) (v : Word) :
    (accessValue w v).toNat = if w = .byte then v.toNat % 256 else v.toNat := by
  cases w with
  | byte => exact toNat_and_ff v
  | word => rfl

/-- Settles O34: the access completes and adds itself to the record of device accesses; then RI and RD are written. -/
theorem peripheralAccessesAreDeviceAccesses : Obligations.PeripheralAccessesAreDeviceAccesses := by
  constructor
  · intro s rd rb ri off e he hready
    rw [exec_loadForm he, loadInto, memRead_of_deviceReady hready]
    refine ⟨_, _, rfl, loaded_setReg (s := s) (t := (periphRead .core e.width e.address s).2) rfl rfl rfl rd ri _ _,
      fun hbyte => ?fits, rfl, rfl, fun _ => rfl⟩
    case fits =>
      rw [toNat_accessValue, if_pos hbyte]
      exact Nat.mod_lt _ (by decide)
  · intro s rs rb ri off e he hready
    rw [exec_storeForm he, storeAt, memWrite_of_deviceReady hready]
    exact ⟨_, accessValue e.width (s.reg rs), rfl,
      storedRegs_setReg (s := s) (t := periphWrite .core e.width e.address (s.reg rs) s) rfl rfl rfl ri _,
      toNat_accessValue _ _, rfl, rfl,
      fun _ => rfl⟩

/-! ## Accesses that are software errors (R93, R99) -/

theorem memRead_of_errs {s : State} {w : Width} {a : Word} (h : accessErrs s w a) :
    ∃ e, memRead w a s = .error (.error e) := by
  rcases Bool.eq_false_or_eq_true (misaligned w a) with hodd | haligned
  · exact ⟨.misalignedData, by simp only [memRead, hodd, if_true]⟩
  · have hunmapped : space s.chip a = .unmapped := by simpa [haligned] using (accessErrs_iff s w a).mp h
    exact ⟨.unmappedData, by simp only [memRead, haligned, hunmapped, Bool.false_eq_true, if_false]⟩

theorem memWrite_of_errs {s : State} {w : Width} {a : Word} (h : accessErrs s w a) (v : Word) :
    ∃ e, memWrite w a v s = .error (.error e) := by
  rcases Bool.eq_false_or_eq_true (misaligned w a) with hodd | haligned
  · exact ⟨.misalignedData, by simp only [memWrite, hodd, if_true]⟩
  · have hunmapped : space s.chip a = .unmapped := by simpa [haligned] using (accessErrs_iff s w a).mp h
    exact ⟨.unmappedData, by simp only [memWrite, haligned, hunmapped, Bool.false_eq_true, if_false]⟩

theorem exec_form_of_errs {s : State} {r rb ri : Reg} {off : BitVec 5} {e : MemoryForm}
    (he : e ∈ loadForms s r rb ri off ++ storeForms s r rb ri off) (herrs : accessErrs s e.width e.address) :
    exec e.instr s = .next (softwareError (resultRegs e.instr) (illegalAccess e.address s)) := by
  rcases List.mem_append.mp he with hload | hstore
  · obtain ⟨c, hread⟩ := memRead_of_errs herrs
    rw [exec_loadForm hload, loadInto, hread]
    rfl
  · obtain ⟨c, hwrite⟩ := memWrite_of_errs herrs (s.reg r)
    rw [exec_storeForm hstore, storeAt, hwrite]
    rfl

/-- Settles O35: a failing access is one software error with the result registers of the form open. -/
theorem badDataAccessesRaiseASoftwareError : Obligations.BadDataAccessesRaiseASoftwareError :=
  fun s _ _ _ _ _ he herrs => ⟨_, exec_form_of_errs he herrs, raised_softwareError _ _ s⟩

/-! ## Accesses without a meaning (R94, R109, R111, R178) -/

/-- A form whose access is refused, whether it loads or stores, is refused. -/
theorem exec_form_of_refused {s : State} {r rb ri : Reg} {off : BitVec 5} {e : MemoryForm} {why : Refusal}
    (he : e ∈ loadForms s r rb ri off ++ storeForms s r rb ri off)
    (hread : memRead e.width e.address s = .error (.refused why))
    (hwrite : memWrite e.width e.address (s.reg r) s = .error (.refused why)) : exec e.instr s = .refused why := by
  rcases List.mem_append.mp he with hload | hstore
  · rw [exec_loadForm hload, loadInto, hread]
    rfl
  · rw [exec_storeForm hstore, storeAt, hwrite]
    rfl

theorem exec_form_of_protected {s : State} {r rb ri : Reg} {off : BitVec 5} {e : MemoryForm}
    (he : e ∈ loadForms s r rb ri off ++ storeForms s r rb ri off) (haligned : misaligned e.width e.address = false)
    (hram : space s.chip e.address = .ram) (hprotected : accessProtected s.chip e.width e.address = true) :
    exec e.instr s = .refused .protectedRam := by
  apply exec_form_of_refused he
  · simp only [memRead, haligned, hram, hprotected, Bool.false_eq_true, if_false, if_true]
  · simp only [memWrite, haligned, hram, hprotected, Bool.false_eq_true, if_false, if_true]

theorem exec_form_of_ownRegister {s : State} {r rb ri : Reg} {off : BitVec 5} {e : MemoryForm} {o : BitVec 6}
    (he : e ∈ loadForms s r rb ri off ++ storeForms s r rb ri off) (haligned : misaligned e.width e.address = false)
    (hspace : space s.chip e.address = .register) (hown : ownOffset s.chip e.address = some o)
    (hnot : o ≠ 0x18 ∧ o ≠ 0x19) : exec e.instr s = .refused .ownModuleRegister := by
  obtain ⟨h18, h19⟩ := hnot
  apply exec_form_of_refused he
  · simp only [memRead, registerRead, haligned, hspace, hown, h18, h19, Bool.false_eq_true, if_false]
  · simp only [memWrite, registerWrite, haligned, hspace, hown, h18, h19, Bool.false_eq_true, or_self, if_false]

theorem mayPreDecrement_self {rb : Reg} (hrb : rb ≠ .r0) : rb.mayPreDecrement rb = false := by
  simpa [Reg.mayPreDecrement] using hrb

theorem loadDec_base {rb : Reg} (hrb : rb ≠ .r0) (w : Width) (r : Reg) (s : State) :
    loadDec w r rb rb s = .refused .preDecrementOfBase := by
  rw [loadDec, mayPreDecrement_self hrb]
  rfl

theorem storeDec_base {rb : Reg} (hrb : rb ≠ .r0) (w : Width) (r : Reg) (s : State) :
    storeDec w r rb rb s = .refused .preDecrementOfBase := by
  rw [storeDec, mayPreDecrement_self hrb]
  rfl

theorem writesPrefetched_of_touched {s : State} {w : Width} {a : Word} (hrunning : s.xgdbg = false)
    (h : ∃ b ∈ touched w a, b = s.pc + 2 ∨ b = s.pc + 3) : writesPrefetched w a s = true := by
  simp only [writesPrefetched, hrunning, Bool.not_false, Bool.true_and, Bool.or_eq_true, accessTouches_eq_true_iff]
  obtain ⟨b, hb, rfl | rfl⟩ := h
  · exact .inl hb
  · exact .inr hb

/-- Settles O36: each clause is one refusal of the shared read and write, or of the shared pre-decrement. -/
theorem accessesWithoutAMeaningAreRefused : Obligations.AccessesWithoutAMeaningAreRefused := by
  refine ⟨fun s r rb hrb => ⟨loadDec_base hrb .byte r s, loadDec_base hrb .word r s, storeDec_base hrb .byte r s,
    storeDec_base hrb .word r s⟩, fun s r rb ri off e he haligned => ⟨fun hram hprotected => ?inProtected,
      fun hspace hlow hhigh h18 h19 => ?own⟩, fun s r rb ri off e he hready hrunning htouched => ?prefetched⟩
  case inProtected =>
    exact exec_form_of_protected he ((misaligned_eq_false_iff _ _).mpr haligned) ((space_eq_ram_iff _ _).mpr hram)
      ((accessProtected_eq_true_iff _ _ _).mpr hprotected)
  case own =>
    refine exec_form_of_ownRegister he ((misaligned_eq_false_iff _ _).mpr haligned) ((space_eq_register_iff _ _).mpr hspace)
      (ownOffset_of_mem hlow hhigh) ?_
    constructor
    all_goals
      intro hoffset
      have hnumber := congrArg BitVec.toNat hoffset
      rw [BitVec.toNat_ofNat, Nat.mod_eq_of_lt (by omega)] at hnumber
    · exact h18 (Nat.eq_add_of_sub_eq hlow hnumber |>.trans (Nat.add_comm _ _))
    · exact h19 (Nat.eq_add_of_sub_eq hlow hnumber |>.trans (Nat.add_comm _ _))
  case prefetched =>
    obtain ⟨haligned, hram, hunprotected⟩ := (ramReady_iff _ _ _).mp hready
    have hwrite : memWrite e.width e.address (s.reg r) s = .error (.refused .prefetchedWordWritten) := by
      simp only [memWrite, haligned, hram, hunprotected, writesPrefetched_of_touched hrunning htouched,
        Bool.false_eq_true, if_false, if_true]
    rw [exec_storeForm he, storeAt, hwrite]
    rfl

/-! ## XGSWT (R49, R50, R94) -/

/-- The host's write to XGSWT, trigger by trigger. -/
theorem getLsbD_triggerWrite (v : Word) (old : BitVec 8) {k : Nat} (hk : k < 8) :
    (triggerWrite v old).getLsbD k = if v.getLsbD (8 + k) then v.getLsbD k else old.getLsbD k := by
  rw [triggerWrite, BitVec.getLsbD_or, BitVec.getLsbD_and, BitVec.getLsbD_and, BitVec.getLsbD_not, getLsbD_highByte v hk,
    getLsbD_lowByte v hk]
  cases v.getLsbD (8 + k) <;> simp [hk]

/-- The accesses to XGSWT that the core makes: at its first byte, and a byte at its second. -/
def atTriggers (c : Chip) (w : Width) (a : Word) : Prop :=
  a = c.xgateBase + 0x18 ∨ (w = .byte ∧ a = c.xgateBase + 0x19)

/-- No address of the block wraps. -/
theorem toNat_blockPlace {c : Chip} (hspace : c.xgateBase.toNat + 0x39 ≤ 0x07FF) {k : Nat} (hk : k ≤ 0x39) :
    (c.xgateBase + BitVec.ofNat 16 k).toNat = c.xgateBase.toNat + k := by
  rw [BitVec.toNat_add, BitVec.toNat_ofNat]
  omega

/-- Such an access is aligned and in the Register Space, at offset $18 or $19 of the block. -/
theorem atTriggers_place {c : Chip} {w : Width} {a : Word} (heven : c.xgateBase.toNat % 2 = 0)
    (hspace : c.xgateBase.toNat + 0x39 ≤ 0x07FF) (h : atTriggers c w a) :
    misaligned w a = false ∧ space c a = .register ∧
      (a = c.xgateBase + 0x18 ∧ ownOffset c a = some 0x18 ∨
        w = .byte ∧ a ≠ c.xgateBase + 0x18 ∧ ownOffset c a = some 0x19) := by
  have h18 : (c.xgateBase + 0x18).toNat = c.xgateBase.toNat + 0x18 := toNat_blockPlace hspace (by decide)
  have h19 : (c.xgateBase + 0x19).toNat = c.xgateBase.toNat + 0x19 := toNat_blockPlace hspace (by decide)
  rw [misaligned_eq_false_iff, space_eq_register_iff]
  rcases h with rfl | ⟨rfl, rfl⟩
  · refine ⟨fun _ => by omega, by omega, .inl ⟨rfl, ?_⟩⟩
    rw [ownOffset_of_mem (by omega) (by omega), h18, Nat.add_sub_cancel_left]
    rfl
  · refine ⟨nofun, by omega, .inr ⟨rfl, fun h => ?_, ?_⟩⟩
    · have := congrArg BitVec.toNat h
      omega
    · rw [ownOffset_of_mem (by omega) (by omega), h19, Nat.add_sub_cancel_left]
      rfl

/-- What the core reads at XGSWT: the triggers, and $00 for the mask byte (R49). -/
def triggerValue (s : State) (w : Width) (a : Word) : Word :=
  if w = .byte ∧ a = s.chip.xgateBase + 0x18 then 0 else s.xgswt.setWidth 16

theorem toNat_triggerValue (s : State) (w : Width) (a : Word) : (triggerValue s w a).toNat =
    if w = .byte ∧ a = s.chip.xgateBase + 0x18 then 0 else s.xgswt.toNat := by
  rw [triggerValue]
  split_ifs
  · rfl
  · exact BitVec.toNat_setWidth_of_le (by decide)

theorem memRead_of_atTriggers {s : State} {w : Width} {a : Word} (heven : s.chip.xgateBase.toNat % 2 = 0)
    (hspace : s.chip.xgateBase.toNat + 0x39 ≤ 0x07FF) (h : atTriggers s.chip w a) :
    memRead w a s = .ok (triggerValue s w a, s) := by
  obtain ⟨haligned, hregister, ⟨ha, hown⟩ | ⟨rfl, ha, hown⟩⟩ := atTriggers_place heven hspace h
  · simp only [memRead, registerRead, haligned, hregister, hown, Bool.false_eq_true, if_false, if_true]
    cases w <;> simp [triggerValue, ha]
  · have hvalue : triggerValue s .byte a = s.xgswt.setWidth 16 := if_neg fun hfirst => ha hfirst.2
    simp only [memRead, registerRead, haligned, hregister, hown, hvalue, Bool.false_eq_true, if_false]
    rfl

theorem memWrite_of_atTriggers {s : State} {w : Width} {a : Word} (heven : s.chip.xgateBase.toNat % 2 = 0)
    (hspace : s.chip.xgateBase.toNat + 0x39 ≤ 0x07FF) (h : atTriggers s.chip w a) (v : Word) :
    memWrite w a v s = .ok (storeTriggers w v s) := by
  obtain ⟨haligned, hregister, hcases⟩ := atTriggers_place heven hspace h
  have hown : ownOffset s.chip a = some 0x18 ∨ ownOffset s.chip a = some 0x19 :=
    hcases.imp And.right fun hbyte => hbyte.2.2
  rcases hown with hown | hown <;>
    simp only [memWrite, registerWrite, haligned, hregister, hown, Bool.false_eq_true, if_false, true_or, or_true, if_true]

/-- Settles O37: the access completes with the triggers, or writes them under the mask of a word; then RI and RD are
written. -/
theorem theCoreReachesTheSoftwareTriggers : Obligations.TheCoreReachesTheSoftwareTriggers := by
  intro s r rb ri off heven hspace
  refine ⟨fun e he hat => ?load, fun e he hat => ?store⟩
  case load =>
    rw [exec_loadForm he, loadInto, memRead_of_atTriggers heven hspace hat]
    exact ⟨_, _, rfl, loaded_setReg rfl rfl rfl r ri _ _, rfl, fun _ => rfl, toNat_triggerValue _ _ _⟩
  case store =>
    rw [exec_storeForm he, storeAt, memWrite_of_atTriggers heven hspace hat]
    cases hwidth : e.width with
    | byte =>
      exact ⟨_, rfl, storedRegs_setReg (s := s) (t := s) rfl rfl rfl ri _, fun _ => rfl, rfl,
        fun k hk => by simp [storeTriggers]⟩
    | word =>
      refine ⟨_, rfl, storedRegs_setReg (s := s) (t := storeTriggers .word (s.reg r) s) rfl rfl rfl ri _, fun _ => rfl, rfl,
        fun k hk => ?_⟩
      simpa [storeTriggers] using getLsbD_triggerWrite (s.reg r) s.xgswt hk

end Sys2Proof.Machine
end

section
/-! All that an instruction can leave, case by case, and what it leaves to the host (60_exceptions.md, section 7). -/

namespace Sys2Proof.Machine

/-! ## What a completed access leaves -/

theorem state_of_memRead {w : Width} {a v : Word} {s t : State} (h : memRead w a s = .ok (v, t)) :
    t = { s with periph := t.periph, draws := t.draws } := by
  rcases memRead_cases w a s with ⟨-, hm⟩ | ⟨-, -, hm⟩ | ⟨-, -, -, hm⟩ | ⟨-, -, -, hm⟩ | ⟨-, -, hm⟩ <;> rw [hm] at h
  · cases h
  · cases h
  · cases h
  · cases h
    rfl
  · rcases registerRead_cases w a s with ⟨-, hr⟩ | ⟨_, -, hr⟩ | ⟨_, -, -, -, hr⟩ <;> rw [hr] at h <;> cases h <;> rfl

theorem ramWrite_wf {s : State} (w : Width) (a v : Word) (h : Memory.wf s.ram) : Memory.wf (s.ramWrite w a v).ram := by
  cases w with
  | byte => exact setRamByte_wf a _ h
  | word => exact setRamWord_wf a v h

theorem state_of_memWrite {w : Width} {a v : Word} {s t : State} (h : memWrite w a v s = .ok t) :
    t = { s with ram := t.ram, periph := t.periph, xgswt := t.xgswt } ∧ (Memory.wf s.ram → Memory.wf t.ram) := by
  rcases memWrite_cases w a v s with ⟨-, hm⟩ | ⟨-, -, hm⟩ | ⟨-, -, -, hm⟩ | ⟨-, -, -, -, hm⟩ | ⟨-, -, -, -, hm⟩ |
    ⟨-, -, hm⟩ <;> rw [hm] at h
  · cases h
  · cases h
  · cases h
  · cases h
  · cases h
    exact ⟨by cases w <;> rfl, ramWrite_wf w a v⟩
  · rcases registerWrite_cases w a v s with ⟨-, hr⟩ | ⟨-, hr⟩ | ⟨_, -, -, -, hr⟩ <;> rw [hr] at h <;> cases h
    · exact ⟨rfl, id⟩
    · cases w <;> exact ⟨rfl, id⟩

/-- An access that is a software error is misaligned or unmapped: no other check of a load answers one. -/
theorem accessErrs_of_memRead {w : Width} {a : Word} {s : State} {c : SoftwareError}
    (h : memRead w a s = .error (.error c)) : accessErrs s w a := by
  rw [accessErrs_iff]
  rcases memRead_cases w a s with ⟨hodd, -⟩ | ⟨-, hunmapped, -⟩ | ⟨-, -, -, hm⟩ | ⟨-, -, -, hm⟩ | ⟨-, -, hm⟩
  · exact .inl hodd
  · exact .inr hunmapped
  · exact nomatch hm.symm.trans h
  · exact nomatch hm.symm.trans h
  · rw [hm] at h
    rcases registerRead_cases w a s with ⟨-, hr⟩ | ⟨_, -, hr⟩ | ⟨_, -, -, -, hr⟩ <;> exact nomatch hr.symm.trans h

theorem accessErrs_of_memWrite {w : Width} {a v : Word} {s : State} {c : SoftwareError}
    (h : memWrite w a v s = .error (.error c)) : accessErrs s w a := by
  rw [accessErrs_iff]
  rcases memWrite_cases w a v s with ⟨hodd, -⟩ | ⟨-, hunmapped, -⟩ | ⟨-, -, -, hm⟩ | ⟨-, -, -, -, hm⟩ |
    ⟨-, -, -, -, hm⟩ | ⟨-, -, hm⟩
  · exact .inl hodd
  · exact .inr hunmapped
  · exact nomatch hm.symm.trans h
  · exact nomatch hm.symm.trans h
  · exact nomatch hm.symm.trans h
  · rw [hm] at h
    rcases registerWrite_cases w a v s with ⟨-, hr⟩ | ⟨-, hr⟩ | ⟨_, -, -, -, hr⟩ <;> exact nomatch hr.symm.trans h

/-! ## All that an instruction can leave -/

/-- The state after an instruction that answers one, as the state before it with the fields that may differ. -/
inductive Effect (s : State) : Instr → State → Prop
  /-- Arithmetic, logic, shifts, fields, transfers, branches, NOP: registers, pc and flags. -/
  | computes (i : Instr) (regs : Regs) (pc : Word) (ccr : CCR) :
    Effect s i { s with regs := regs, pc := pc, ccr := ccr }
  /-- A completed load: registers, pc and the record of device accesses. -/
  | reads (i : Instr) (regs : Regs) (pc : Word) (periph : List PeriphAccess) (draws : Nat) :
    Effect s i { s with regs := regs, pc := pc, periph := periph, draws := draws }
  /-- A completed store: RAM, the record of device accesses, or the triggers. -/
  | writes (i : Instr) (regs : Regs) (pc : Word) (ram : Memory) (periph : List PeriphAccess) (xgswt : BitVec 8)
    (hwf : Memory.wf s.ram → Memory.wf ram) :
    Effect s i { s with regs := regs, pc := pc, ram := ram, periph := periph, xgswt := xgswt }
  /-- A load or store whose access is a software error. -/
  | errs (r rb ri : Reg) (off : BitVec 5) (e : MemoryForm)
    (hform : e ∈ loadForms s r rb ri off ++ storeForms s r rb ri off) (herrs : accessErrs s e.width e.address) :
    Effect s e.instr (softwareError (resultRegs e.instr) (illegalAccess e.address s))
  /-- BRK. -/
  | breaks : Effect s .brk { s with xgdbg := true, breakReqs := s.breakReqs + 1 }
  /-- RTS. -/
  | returns : Effect s .rts (returnToScheduler s)
  /-- SIF in both forms. -/
  | signals (i : Instr) (hi : i = .sif ∨ ∃ rs, i = .sifReg rs) (n : BitVec 7) : Effect s i (setFlag n s).advance
  /-- SSEM in both forms. -/
  | locks (i : Instr) (k : BitVec 3) : Effect s i (setSemaphore k s).advance
  /-- CSEM in both forms. -/
  | unlocks (i : Instr) (k : BitVec 3) : Effect s i (clearSemaphore k s).advance

theorem effect_of_loadForm (r rb ri : Reg) (off : BitVec 5) {s t : State} {e : MemoryForm}
    (he : e ∈ loadForms s r rb ri off) (h : exec e.instr s = .next t) : Effect s e.instr t := by
  rw [exec_loadForm he] at h
  rcases loadInto_next h with ⟨v, u, hread, rfl⟩ | ⟨c, hread, rfl⟩
  · rw [state_of_memRead hread]
    exact .reads _ _ _ _ _
  · exact .errs r rb ri off e (List.mem_append_left _ he) (accessErrs_of_memRead hread)

theorem effect_of_storeForm (r rb ri : Reg) (off : BitVec 5) {s t : State} {e : MemoryForm}
    (he : e ∈ storeForms s r rb ri off) (h : exec e.instr s = .next t) : Effect s e.instr t := by
  rw [exec_storeForm he] at h
  rcases storeAt_next h with ⟨u, hwrite, rfl⟩ | ⟨c, hwrite, rfl⟩
  · obtain ⟨hstate, hwf⟩ := state_of_memWrite hwrite
    rw [hstate]
    exact .writes _ _ _ _ _ _ hwf
  · exact .errs r rb ri off e (List.mem_append_right _ he) (accessErrs_of_memWrite hwrite)

/-- A pre-decrement load that answers a state is one of the forms. -/
theorem mayPreDecrement_of_loadDec {w : Width} {rd rb ri : Reg} {s t : State} (h : loadDec w rd rb ri s = .next t) :
    ri = .r0 ∨ ri ≠ rb := by
  by_contra hnone
  have hmay : rb.mayPreDecrement ri = false := by simpa [Reg.mayPreDecrement] using hnone
  simp [loadDec, hmay] at h

theorem mayPreDecrement_of_storeDec {w : Width} {rs rb ri : Reg} {s t : State} (h : storeDec w rs rb ri s = .next t) :
    ri = .r0 ∨ ri ≠ rb := by
  by_contra hnone
  have hmay : rb.mayPreDecrement ri = false := by simpa [Reg.mayPreDecrement] using hnone
  simp [storeDec, hmay] at h

/-- All that an instruction can leave. -/
theorem effect_of_exec {i : Instr} {s t : State} (h : exec i s = .next t) : Effect s i t := by
  cases i
  case ldbOff rd rb off =>
    exact effect_of_loadForm rd rb .r0 off (e := ⟨.ldbOff rd rb off, .byte, eaOffset s rb off, s.reg .r0⟩)
      (by simp [loadForms]) h
  case ldbIdx rd rb ri =>
    exact effect_of_loadForm rd rb ri 0 (e := ⟨.ldbIdx rd rb ri, .byte, eaIndexed s rb ri, s.reg ri⟩)
      (by simp [loadForms]) h
  case ldbInc rd rb ri =>
    exact effect_of_loadForm rd rb ri 0 (e := ⟨.ldbInc rd rb ri, .byte, eaIndexed s rb ri, s.reg ri + 1⟩)
      (by simp [loadForms]) h
  case ldbDec rd rb ri =>
    have hmay := mayPreDecrement_of_loadDec (w := .byte) h
    exact effect_of_loadForm rd rb ri 0
      (e := ⟨.ldbDec rd rb ri, .byte, eaIndexed (preDecrement .byte ri s) rb ri, s.reg ri - 1⟩) (by simp [loadForms, hmay]) h
  case ldwOff rd rb off =>
    exact effect_of_loadForm rd rb .r0 off (e := ⟨.ldwOff rd rb off, .word, eaOffset s rb off, s.reg .r0⟩)
      (by simp [loadForms]) h
  case ldwIdx rd rb ri =>
    exact effect_of_loadForm rd rb ri 0 (e := ⟨.ldwIdx rd rb ri, .word, eaIndexed s rb ri, s.reg ri⟩)
      (by simp [loadForms]) h
  case ldwInc rd rb ri =>
    exact effect_of_loadForm rd rb ri 0 (e := ⟨.ldwInc rd rb ri, .word, eaIndexed s rb ri, s.reg ri + 2⟩)
      (by simp [loadForms]) h
  case ldwDec rd rb ri =>
    have hmay := mayPreDecrement_of_loadDec (w := .word) h
    exact effect_of_loadForm rd rb ri 0
      (e := ⟨.ldwDec rd rb ri, .word, eaIndexed (preDecrement .word ri s) rb ri, s.reg ri - 2⟩) (by simp [loadForms, hmay]) h
  case stbOff rs rb off =>
    exact effect_of_storeForm rs rb .r0 off (e := ⟨.stbOff rs rb off, .byte, eaOffset s rb off, s.reg .r0⟩)
      (by simp [storeForms]) h
  case stbIdx rs rb ri =>
    exact effect_of_storeForm rs rb ri 0 (e := ⟨.stbIdx rs rb ri, .byte, eaIndexed s rb ri, s.reg ri⟩)
      (by simp [storeForms]) h
  case stbInc rs rb ri =>
    exact effect_of_storeForm rs rb ri 0 (e := ⟨.stbInc rs rb ri, .byte, eaIndexed s rb ri, s.reg ri + 1⟩)
      (by simp [storeForms]) h
  case stbDec rs rb ri =>
    have hmay := mayPreDecrement_of_storeDec (w := .byte) h
    exact effect_of_storeForm rs rb ri 0
      (e := ⟨.stbDec rs rb ri, .byte, eaIndexed (preDecrement .byte ri s) rb ri, s.reg ri - 1⟩) (by simp [storeForms, hmay]) h
  case stwOff rs rb off =>
    exact effect_of_storeForm rs rb .r0 off (e := ⟨.stwOff rs rb off, .word, eaOffset s rb off, s.reg .r0⟩)
      (by simp [storeForms]) h
  case stwIdx rs rb ri =>
    exact effect_of_storeForm rs rb ri 0 (e := ⟨.stwIdx rs rb ri, .word, eaIndexed s rb ri, s.reg ri⟩)
      (by simp [storeForms]) h
  case stwInc rs rb ri =>
    exact effect_of_storeForm rs rb ri 0 (e := ⟨.stwInc rs rb ri, .word, eaIndexed s rb ri, s.reg ri + 2⟩)
      (by simp [storeForms]) h
  case stwDec rs rb ri =>
    have hmay := mayPreDecrement_of_storeDec (w := .word) h
    exact effect_of_storeForm rs rb ri 0
      (e := ⟨.stwDec rs rb ri, .word, eaIndexed (preDecrement .word ri s) rb ri, s.reg ri - 2⟩) (by simp [storeForms, hmay]) h
  all_goals cases h
  case brk => exact .breaks
  case rts => exact .returns
  case sif => exact .signals _ (.inl rfl) _
  case sifReg rs => exact .signals _ (.inr ⟨rs, rfl⟩) _
  case ssemImm k => exact .locks _ _
  case ssemReg rs => exact .locks _ _
  case csemImm k => exact .unlocks _ _
  case csemReg rs => exact .unlocks _ _
  all_goals exact .computes _ _ _ _

/-! ## What no instruction changes (R391) -/

theorem SemState.coreLock_eq_lockedCPU_iff (t : SemState) : t.coreLock = .lockedCPU ↔ t = .lockedCPU := by
  cases t <;> simp [SemState.coreLock]

theorem SemState.coreUnlock_eq_lockedCPU_iff (t : SemState) : t.coreUnlock = .lockedCPU ↔ t = .lockedCPU := by
  cases t <;> simp [SemState.coreUnlock]

/-- A semaphore operation whose result is locked by the S12X_CPU exactly where its operand is keeps those locks. -/
theorem Sems.get_set_eq_lockedCPU_iff {t : Sems} {k : BitVec 3} {v : SemState}
    (hv : v = .lockedCPU ↔ t.get k = .lockedCPU) (j : BitVec 3) :
    (t.set k v).get j = .lockedCPU ↔ t.get j = .lockedCPU := by
  rw [Sems.get_set]
  split_ifs with hj
  · rw [hj, hv]
  · rfl

/-- The fields that belong to the host or another module, the same before and after. -/
structure HostControl (s t : State) : Prop where
  xge : t.xge = s.xge
  xgfrz : t.xgfrz = s.xgfrz
  xgie : t.xgie = s.xgie
  xgvbr : t.xgvbr = s.xgvbr
  reqLines : t.reqLines = s.reqLines
  triggerRoute : t.triggerRoute = s.triggerRoute
  freezeInput : t.freezeInput = s.freezeInput
  tagged : t.tagged = s.tagged
  dbgReq : t.dbgReq = s.dbgReq
  startPending : t.startPending = s.startPending
  env : t.env = s.env
  chip : t.chip = s.chip
  hostData : t.hostData = s.hostData
  ramEpoch : t.ramEpoch = s.ramEpoch

theorem Effect.hostControl {s t : State} {i : Instr} (h : Effect s i t) : HostControl s t := by
  cases h with
  | signals _ _ n =>
    rw [setFlag_eq]
    constructor <;> rfl
  | _ => constructor <;> rfl

/-- An instruction sets a flag of XGIF only if it is SIF, and clears none. -/
theorem Effect.xgif {s t : State} {i : Instr} (h : Effect s i t) :
    t.xgif = s.xgif ∨ ((i = .sif ∨ ∃ rs, i = .sifReg rs) ∧ ∃ n, t.xgif = (setFlag n s).xgif) := by
  cases h with
  | signals _ hi n => exact .inr ⟨hi, n, rfl⟩
  | _ => exact .inl rfl

theorem Effect.sem {s t : State} {i : Instr} (h : Effect s i t) (j : BitVec 3) :
    t.sem.get j = .lockedCPU ↔ s.sem.get j = .lockedCPU := by
  cases h with
  | signals _ _ n => rw [setFlag_eq]; rfl
  | locks _ k => exact Sems.get_set_eq_lockedCPU_iff (SemState.coreLock_eq_lockedCPU_iff _) j
  | unlocks _ k => exact Sems.get_set_eq_lockedCPU_iff (SemState.coreUnlock_eq_lockedCPU_iff _) j
  | _ => rfl

theorem Effect.xgdbg {s t : State} {i : Instr} (h : Effect s i t) :
    t.xgdbg = s.xgdbg ∨ (i = .brk ∧ t.xgdbg = true) := by
  cases h with
  | breaks => exact .inr ⟨rfl, rfl⟩
  | signals _ _ n => rw [setFlag_eq]; exact .inl rfl
  | _ => exact .inl rfl

theorem Effect.xgchid {s t : State} {i : Instr} (h : Effect s i t) :
    t.xgchid = s.xgchid ∨ (i = .rts ∧ t.xgchid = 0) := by
  cases h with
  | returns => exact .inr ⟨rfl, rfl⟩
  | signals _ _ n => rw [setFlag_eq]; exact .inl rfl
  | _ => exact .inl rfl

/-- An instruction flags a software error only by a load or store whose access is one. -/
theorem Effect.xgsweif {s t : State} {i : Instr} (h : Effect s i t) :
    t.xgsweif = s.xgsweif ∨ (t.xgsweif = true ∧ ∃ r rb ri off, ∃ e ∈ loadForms s r rb ri off ++ storeForms s r rb ri off,
      i = e.instr ∧ accessErrs s e.width e.address) := by
  cases h with
  | errs r rb ri off e hform herrs => exact .inr ⟨rfl, r, rb, ri, off, e, hform, rfl, herrs⟩
  | signals _ _ n => rw [setFlag_eq]; exact .inl rfl
  | _ => exact .inl rfl

/-- Settles O51: each clause is one field of all that an instruction can leave. -/
theorem instructionsLeaveTheHostsControlAlone : Obligations.InstructionsLeaveTheHostsControlAlone := by
  intro i s t hexec
  have heffect := effect_of_exec hexec
  obtain ⟨hxge, hxgfrz, hxgie, hxgvbr, hlines, hroute, hfreeze, htagged, hreq, hstart, henv, hchip, hdata, hepoch⟩ :=
    heffect.hostControl
  refine ⟨hxge, hxgfrz, hxgie, hxgvbr, hlines, hroute, hfreeze, htagged, hreq, hstart, henv, hchip, hdata, hepoch,
    fun n hset => ?kept, heffect.sem, heffect.xgdbg, heffect.xgchid, fun hflag => ?stays, fun hclear => ⟨fun hflag => ?cause,
      ?flags⟩, fun n hunset hset => ?signal⟩
  case kept =>
    rcases heffect.xgif with hsame | ⟨-, n', hsif⟩
    · rwa [hsame]
    · rw [hsif, getLsbD_xgif_setFlag]
      exact .inl hset
  case stays =>
    rcases heffect.xgsweif with hsame | ⟨hraised, -⟩
    · rwa [hsame]
    · exact hraised
  case cause =>
    rcases heffect.xgsweif with hsame | ⟨-, hcause⟩
    · exact absurd (hsame.symm.trans hflag) (ne_true_of_eq_false hclear)
    · exact hcause
  case flags =>
    rintro ⟨r, rb, ri, off, e, hform, rfl, herrs⟩
    cases (exec_form_of_errs hform herrs).symm.trans hexec
    rfl
  case signal =>
    rcases heffect.xgif with hsame | ⟨hsif, -⟩
    · exact absurd (hsame ▸ hset) (ne_true_of_eq_false hunset)
    · exact hsif

end Sys2Proof.Machine
end

section
/-! One step of the core: the run state, the executed instruction, the choice of a request and the start of a thread
(10_state.md, section 3; 60_exceptions.md, sections 2, 5 and 7). -/

namespace Sys2Proof.Machine

/-! ## The run state (R61) -/

theorem runState_of_halting {s : State}
    (h : s.xgdbg = true ∨ s.xgsweif = true ∨ (s.freezeInput = true ∧ s.xgfrz = true)) :
    runState s = .halted ∨ runState s = .stopped ∨ runState s = .frozen := by
  unfold runState
  rcases h with hdebug | herror | ⟨hinput, hfreeze⟩
  · simp [hdebug]
  · by_cases hdebug : s.xgdbg <;> simp [hdebug, herror]
  · by_cases hdebug : s.xgdbg <;> by_cases herror : s.xgsweif <;> simp [hdebug, herror, hinput, hfreeze]

/-- Neither halted nor stopped nor frozen, the core is idle exactly where it has no channel. -/
theorem runState_of_free {s : State} (hdebug : s.xgdbg = false) (herror : s.xgsweif = false)
    (hfreeze : ¬ (s.freezeInput = true ∧ s.xgfrz = true)) :
    runState s = if s.xgchid = 0 then .idle else .running := by
  have hnot_frozen : (s.freezeInput && s.xgfrz) = false := by simpa using hfreeze
  simp [runState, hdebug, herror, hnot_frozen]

theorem runState_eq_running_iff (s : State) : runState s = .running ↔
    s.xgdbg = false ∧ s.xgsweif = false ∧ ¬ (s.freezeInput = true ∧ s.xgfrz = true) ∧ s.xgchid ≠ 0 := by
  constructor
  · intro h
    have hfree := mt (runState_of_halting (s := s)) (by simp [h])
    push Not at hfree
    obtain ⟨hdebug, herror, hfreeze⟩ := hfree
    rw [ne_eq, Bool.not_eq_true] at hdebug herror
    refine ⟨hdebug, herror, fun ⟨hinput, hfrz⟩ => hfreeze hinput hfrz, fun hidle => ?_⟩
    rw [runState_of_free hdebug herror fun ⟨hinput, hfrz⟩ => hfreeze hinput hfrz, if_pos hidle] at h
    cases h
  · rintro ⟨hdebug, herror, hfreeze, hthread⟩
    rw [runState_of_free hdebug herror hfreeze, if_neg hthread]

theorem runState_eq_idle_imp {s : State} (h : runState s = .idle) : s.xgdbg = false ∧ s.xgchid = 0 := by
  have hfree := mt (runState_of_halting (s := s)) (by simp [h])
  push Not at hfree
  obtain ⟨hdebug, herror, hfreeze⟩ := hfree
  rw [ne_eq, Bool.not_eq_true] at hdebug herror
  refine ⟨hdebug, ?_⟩
  by_contra hthread
  rw [runState_of_free hdebug herror fun ⟨hinput, hfrz⟩ => hfreeze hinput hfrz, if_neg hthread] at h
  cases h

/-! ## The choice of a request (R345) -/

/-- The list of a set's channels holds channels of the set only. -/
theorem mem_channelList {m : BitVec 128} {n : BitVec 7} (h : n ∈ channelList m) : m.getLsbD n.toNat = true := by
  simp only [channelList, List.mem_map, List.mem_filter, List.mem_range] at h
  obtain ⟨k, ⟨hk, hset⟩, rfl⟩ := h
  rwa [BitVec.toNat_ofNat, Nat.mod_eq_of_lt hk]

theorem channelList_eq_nil_iff (m : BitVec 128) : channelList m = [] ↔ m = 0 := by
  simp only [channelList, List.map_eq_nil_iff, List.filter_eq_nil_iff, List.mem_range, Bool.not_eq_true]
  constructor
  · intro hclear
    exact BitVec.eq_of_getLsbD_eq fun i hi => by rw [hclear i hi]; simp
  · rintro rfl i -
    simp

theorem chooseRequest_of_none {s : State} (h : pendingRequests s = 0) : chooseRequest s = none := by
  rw [chooseRequest, (channelList_eq_nil_iff _).mpr h]

/-- Whichever place the free choice names, a channel of the set stands there. -/
theorem chooseRequest_of_some {s : State} (h : pendingRequests s ≠ 0) :
    ∃ n, chooseRequest s = some n ∧ (pendingRequests s).getLsbD n.toNat = true := by
  have hmem (n : BitVec 7) : n ∈ channelList (pendingRequests s) → (pendingRequests s).getLsbD n.toNat = true :=
    mem_channelList
  have hne := mt (channelList_eq_nil_iff (pendingRequests s)).mp h
  simp only [chooseRequest]
  generalize channelList (pendingRequests s) = l at hmem hne
  match l with
  | [] => exact absurd rfl hne
  | [n] => exact ⟨n, rfl, hmem n (by simp)⟩
  | a :: b :: rest =>
    have hlt : Config.selectIndex s.draws (pendingRequests s) % (a :: b :: rest).length < (a :: b :: rest).length :=
      Nat.mod_lt _ (by simp)
    exact ⟨_, List.getElem?_eq_getElem hlt, hmem _ (List.getElem_mem hlt)⟩

/-! ## One step of the core (R394) -/

theorem step_of_empty {s : State} (h : s.env = []) : step s = coreStep s := by
  simp only [step, nextState, h]

theorem step_of_event {s : State} {e : Event} {rest : List Event} (h : s.env = e :: rest) :
    step s = applyEvent e { s with env := rest } := by
  simp only [step, nextState, h]

theorem coreStep_of_halting {s : State}
    (h : s.xgdbg = true ∨ s.xgsweif = true ∨ (s.freezeInput = true ∧ s.xgfrz = true)) : coreStep s = .next s := by
  rcases runState_of_halting h with hrun | hrun | hrun <;> simp only [coreStep, hrun]

theorem coreStep_of_tagged {s : State} (hrun : runState s = .running) (htag : s.tagged = true) :
    coreStep s = .next (enterDebug s) := by
  simp only [coreStep, hrun, htag, if_true]

theorem coreStep_of_running {s : State} (hrun : runState s = .running) (htag : s.tagged = false) :
    coreStep s = onNext (executeOne s) finishDebug := by
  simp only [coreStep, hrun, htag, Bool.false_eq_true, if_false]

/-- Settles O6: the step of the core by its run state; the request chosen is one of the set. -/
theorem runStateDecidesWhatTheCoreDoes : Obligations.RunStateDecidesWhatTheCoreDoes := by
  intro s henv
  rw [step_of_empty henv]
  refine ⟨coreStep_of_halting, fun ⟨hdebug, herror, hfreeze⟩ => ?_⟩
  have hrun := runState_of_free hdebug herror hfreeze
  refine ⟨fun hidle => ?idle, fun hthread => ?running⟩
  case idle =>
    rw [if_pos hidle] at hrun
    refine ⟨fun hnone => ?_, fun ⟨henabled, hsome⟩ => ?_⟩
    · rcases hnone with hdisabled | hempty
      · simp only [coreStep, hrun, hdisabled, Bool.false_eq_true, if_false]
      · simp only [coreStep, hrun, chooseRequest_of_none hempty, ite_self]
    · obtain ⟨n, hchoice, hpending⟩ := chooseRequest_of_some hsome
      exact ⟨n, hpending, by simp only [coreStep, hrun, henabled, hchoice, if_true]⟩
  case running =>
    rw [if_neg hthread] at hrun
    refine ⟨coreStep_of_tagged hrun, fun htag t hexecute => ?_⟩
    rw [coreStep_of_running hrun htag, hexecute]
    rfl

/-! ## The step as the instruction at pc -/

theorem stopAt_ne_fault (which : List Reg) (a : Word) (s : State) (e : Stop) (f : Fault) :
    stopAt which a s e ≠ .fault f := by
  cases e <;> nofun

theorem loadInto_ne_fault (w : Width) (rd : Reg) (a : Word) (which : List Reg) (post : State → State) (s : State)
    (f : Fault) : loadInto w rd a which post s ≠ .fault f := by
  unfold loadInto
  split
  · nofun
  · exact stopAt_ne_fault _ _ _ _ _

theorem storeAt_ne_fault (w : Width) (v a : Word) (which : List Reg) (post : State → State) (s : State) (f : Fault) :
    storeAt w v a which post s ≠ .fault f := by
  unfold storeAt
  split
  · nofun
  · exact stopAt_ne_fault _ _ _ _ _

theorem loadDec_ne_fault (w : Width) (rd rb ri : Reg) (s : State) (f : Fault) : loadDec w rd rb ri s ≠ .fault f := by
  unfold loadDec
  split
  · exact loadInto_ne_fault _ _ _ _ _ _ _
  · nofun

theorem storeDec_ne_fault (w : Width) (rs rb ri : Reg) (s : State) (f : Fault) : storeDec w rs rb ri s ≠ .fault f := by
  unfold storeDec
  split
  · exact storeAt_ne_fault _ _ _ _ _ _ _
  · nofun

/-- An instruction answers a state or a refusal: only the host's accesses can fault. -/
theorem exec_ne_fault (i : Instr) (s : State) (f : Fault) : exec i s ≠ .fault f := by
  cases i
  case ldbOff | ldwOff | ldbIdx | ldwIdx | ldbInc | ldwInc => exact loadInto_ne_fault _ _ _ _ _ _ _
  case stbOff | stwOff | stbIdx | stwIdx | stbInc | stwInc => exact storeAt_ne_fault _ _ _ _ _ _ _
  case ldbDec | ldwDec => exact loadDec_ne_fault _ _ _ _ _ _
  case stbDec | stwDec => exact storeDec_ne_fault _ _ _ _ _ _
  all_goals nofun

/-- Settles O5: with a thread running and the word at pc fetchable, the step is `exec` of what that word decodes to. -/
theorem stepRunsTheDecodedInstruction : Obligations.StepRunsTheDecodedInstruction := by
  refine ⟨fun s i hready htop hdecode => ?_, fun s e rest henv => step_of_event henv⟩
  obtain ⟨henv, ⟨hdebug, herror, hfreeze, hthread⟩, htag, hfetch⟩ := hready
  have hrun : runState s = .running :=
    (runState_eq_running_iff s).mpr ⟨hdebug, herror, by rcases hfreeze with h | h <;> simp [h], hthread⟩
  have hstep : step s = onNext (exec i s) finishDebug := by
    rw [step_of_empty henv, coreStep_of_running hrun htag, executeOne_of_ready htop hfetch, State.ramWord, hdecode]
  refine ⟨fun t hexec => ?_, fun r hexec => ?_, exec_ne_fault i s⟩
  · rw [hstep, hexec]
    rfl
  · rw [hstep, hexec]
    rfl

/-! ## All that executing the instruction at pc can leave -/

/-- A software error, or all that the decoded instruction can leave. -/
theorem executeOne_next {s t : State} (h : executeOne s = .next t) :
    (∃ which a, t = softwareError which (illegalAccess a s)) ∨
      ∃ i, decodeWord (s.ramWord s.pc) = .ok i ∧ Effect s i t := by
  rcases fetchWord_cases s.pc s with ⟨e, hfetch⟩ | hfetch | ⟨-, hram, -, hfetch⟩
  · rw [executeOne, hfetch] at h
    cases h
    exact .inl ⟨_, _, rfl⟩
  · rw [executeOne, hfetch] at h
    cases h
  · simp only [executeOne, hfetch] at h
    split at h
    next =>
      cases h
      exact .inl ⟨_, _, rfl⟩
    next =>
      cases hdecode : decodeWord (s.ramWord s.pc) with
      | ok i =>
        rw [hdecode] at h
        exact .inr ⟨i, rfl, effect_of_exec h⟩
      | error e =>
        rw [hdecode] at h
        cases h
        refine .inl ⟨[], s.pc, ?_⟩
        rw [illegalAccess_of_ram hram]

end Sys2Proof.Machine
end

section
/-! The invariant over every step: what each mover of the machine can leave, and that it keeps the invariant (10_state.md,
20_memory.md, 60_exceptions.md). -/

namespace Sys2Proof.Machine

/-! ## The invariant and the fields it speaks of -/

/-- A state with the RAM, the chip, XGVBR and XGIF of one that meets the invariant needs only the condition on a pending
start. -/
theorem State.Inv.of_eq {s t : State} (h : s.Inv) (hram : t.ram = s.ram) (hchip : t.chip = s.chip)
    (hvbr : t.xgvbr = s.xgvbr) (hif : t.xgif = s.xgif)
    (hstart : t.startPending = true → t.xgdbg = true ∧ t.xgchid ≠ 0) : t.Inv where
  ram := hram ▸ h.ram
  chip := hchip ▸ h.chip
  vbr := by rw [hvbr, hchip, h.vbr]
  flags := by rw [hif, hchip, h.flags]
  start := hstart

/-- Outside debug mode no start is pending. -/
theorem State.Inv.not_pending {s : State} (h : s.Inv) (hdebug : s.xgdbg = false) : s.startPending = false := by
  by_contra hpending
  rw [Bool.not_eq_false] at hpending
  exact absurd (h.start hpending).1 (ne_true_of_eq_false hdebug)

theorem not_pending_absurd {s : State} {p : Prop} (h : s.startPending = false) (hpending : s.startPending = true) : p :=
  absurd hpending (ne_true_of_eq_false h)

/-! ## The core -/

/-- SIF's flag is one of an implemented channel. -/
theorem flags_setFlag {s : State} (h : s.xgif &&& ~~~s.chip.channels = 0) (n : BitVec 7) :
    (setFlag n s).xgif &&& ~~~s.chip.channels = 0 := by
  apply BitVec.eq_of_getLsbD_eq
  intro j hj
  have hold := congrArg (fun b => b.getLsbD j) h
  have hzero : (0 : BitVec 128).getLsbD j = false := BitVec.getLsbD_zero
  simp only [hzero] at hold ⊢
  simp only [BitVec.getLsbD_and, BitVec.getLsbD_not, hj, decide_true, Bool.true_and, Bool.and_eq_false_iff,
    Bool.not_eq_false'] at hold ⊢
  rw [Classical.or_iff_not_imp_left, Bool.not_eq_false, getLsbD_xgif_setFlag, getLsbD_channels_iff]
  rintro (hset | ⟨rfl, himplemented⟩)
  · simpa [hset, getLsbD_channels_iff] using hold
  · exact himplemented

theorem Effect.ram_wf {s t : State} {i : Instr} (h : Effect s i t) (hwf : Memory.wf s.ram) : Memory.wf t.ram := by
  cases h with
  | writes _ _ _ _ _ _ hkeep => exact hkeep hwf
  | signals _ _ n => rw [setFlag_eq]; exact hwf
  | _ => exact hwf

/-- An instruction keeps the invariant where no start is pending; only a halted core could have one. -/
theorem Effect.inv {s t : State} {i : Instr} (h : Effect s i t) (hs : s.Inv) (hidle : s.startPending = false) :
    t.Inv where
  ram := h.ram_wf hs.ram
  chip := by rw [h.hostControl.chip, hs.chip]
  vbr := by rw [h.hostControl.chip, h.hostControl.xgvbr, hs.vbr]
  flags := by
    rw [h.hostControl.chip]
    rcases h.xgif with hsame | ⟨-, n, hset⟩
    · rw [hsame, hs.flags]
    · rw [hset, flags_setFlag hs.flags]
  start hpending := not_pending_absurd hidle (h.hostControl.startPending ▸ hpending)

theorem inv_executeOne {s t : State} (hs : s.Inv) (hidle : s.startPending = false) (h : executeOne s = .next t) :
    t.Inv ∧ t.chip = s.chip := by
  rcases executeOne_next h with ⟨which, a, rfl⟩ | ⟨i, -, heffect⟩
  · exact ⟨hs.of_eq rfl rfl rfl rfl fun hpending => not_pending_absurd hidle hpending, rfl⟩
  · exact ⟨heffect.inv hs hidle, heffect.hostControl.chip⟩

theorem inv_startThread {n : BitVec 7} {s t : State} (hs : s.Inv) (hidle : s.startPending = false)
    (h : startThread n s = .next t) : t.Inv ∧ t.chip = s.chip := by
  rcases startThread_next h with ⟨p, v, -, -, rfl⟩ | ⟨a, -, rfl⟩ <;>
    exact ⟨hs.of_eq rfl rfl rfl rfl fun hpending => not_pending_absurd hidle hpending, rfl⟩

theorem inv_enterDebug {s : State} (hs : s.Inv) : (enterDebug s).Inv :=
  hs.of_eq rfl rfl rfl rfl fun hpending => ⟨rfl, (hs.start hpending).2⟩

theorem inv_finishDebug {s : State} (hs : s.Inv) : (finishDebug s).Inv ∧ (finishDebug s).chip = s.chip := by
  rw [finishDebug]
  split_ifs
  · exact ⟨(inv_enterDebug hs).of_eq rfl rfl rfl rfl (inv_enterDebug hs).start, rfl⟩
  · exact ⟨hs, rfl⟩

/-- All that a step of the core can be: nothing, a thread's start, a tag taken, or one instruction (R394). -/
theorem coreStep_next {s t : State} (h : coreStep s = .next t) :
    t = s ∨ (s.xgdbg = false ∧ s.xgchid = 0 ∧ ∃ n, startThread n s = .next t) ∨
      (runState s = .running ∧ t = enterDebug s) ∨
      (runState s = .running ∧ ∃ u, executeOne s = .next u ∧ t = finishDebug u) := by
  unfold coreStep at h
  split at h
  case h_1 => exact .inl (Host.Outcome.next.inj h).symm
  case h_2 => exact .inl (Host.Outcome.next.inj h).symm
  case h_3 => exact .inl (Host.Outcome.next.inj h).symm
  case h_4 hidle =>
    obtain ⟨hdebug, hchannel⟩ := runState_eq_idle_imp hidle
    split_ifs at h
    · split at h
      next n _ => exact .inr (.inl ⟨hdebug, hchannel, n, h⟩)
      next => exact .inl (Host.Outcome.next.inj h).symm
    · exact .inl (Host.Outcome.next.inj h).symm
  case h_5 hrun =>
    split_ifs at h
    · exact .inr (.inr (.inl ⟨hrun, (Host.Outcome.next.inj h).symm⟩))
    · obtain ⟨u, hexecute, rfl⟩ := onNext_next.mp h
      exact .inr (.inr (.inr ⟨hrun, u, hexecute, rfl⟩))

theorem inv_coreStep {s t : State} (hs : s.Inv) (h : coreStep s = .next t) : t.Inv ∧ t.chip = s.chip := by
  rcases coreStep_next h with rfl | ⟨hdebug, -, n, hstart⟩ | ⟨-, rfl⟩ | ⟨hrun, u, hexecute, rfl⟩
  · exact ⟨hs, rfl⟩
  · exact inv_startThread hs (hs.not_pending hdebug) hstart
  · exact ⟨inv_enterDebug hs, rfl⟩
  · obtain ⟨hu, hchip⟩ := inv_executeOne hs (hs.not_pending ((runState_eq_running_iff s).mp hrun).1) hexecute
    obtain ⟨hfinish, hchip'⟩ := inv_finishDebug hu
    exact ⟨hfinish, hchip'.trans hchip⟩

/-! ## The host's write to XGMCTL (R40) -/

/-- The second effect of a write to XGMCTL: XGDBG under its mask. -/
def debugPart (v : Byte) (s : State) : Host.Outcome State Fault Refusal :=
  if v.getLsbD 5 then (if v.getLsbD 4 then .next (requestDebug s) else leaveDebug s) else .next s

/-- The third effect: the single step. -/
def stepPart (v : Byte) (s : State) : Host.Outcome State Fault Refusal :=
  if v.getLsbD s.chip.xgssBit.index then singleStep s else .next s

theorem writeXgmctl_eq (v : Byte) (s : State) :
    writeXgmctl v s = clearingError v (thenDo (debugPart v (s.withControl v)) (stepPart v)) := by
  change thenDo (debugPart v (s.withControl v)) (fun u => thenDo (stepPart v u) _) = _
  cases debugPart v (s.withControl v) with
  | fault | refused => rfl
  | next u =>
    simp only [thenDo]
    cases stepPart v u <;> rfl

/-- What leaving debug mode does to the state before a pending thread starts (R379). -/
def State.withoutDebug (s : State) : State := { s with xgdbg := false, dbgReq := false }

theorem leaveDebug_of_pending {s : State} (hdebug : s.xgdbg = true) (hpending : s.startPending = true) :
    leaveDebug s = startThread s.xgchid { s.withoutDebug with startPending := false } := by
  simp only [leaveDebug, hdebug, hpending, if_true]
  rfl

theorem leaveDebug_of_not_pending {s : State} (h : s.xgdbg = false ∨ s.startPending = false) :
    leaveDebug s = .next s.withoutDebug := by
  rcases Bool.eq_false_or_eq_true s.xgdbg with hdebug | hdebug
  · have hpending : s.startPending = false := by simpa [hdebug] using h
    rw [leaveDebug, if_pos hdebug, if_neg (ne_true_of_eq_false hpending), State.withoutDebug]
  · simp only [leaveDebug, hdebug, Bool.false_eq_true, if_false, State.withoutDebug]

theorem leaveDebug_next {s t : State} (h : leaveDebug s = .next t) :
    ((s.xgdbg = false ∨ s.startPending = false) ∧ t = s.withoutDebug) ∨
      startThread s.xgchid { s.withoutDebug with startPending := false } = .next t := by
  by_cases hpending : s.xgdbg = true ∧ s.startPending = true
  · rw [leaveDebug_of_pending hpending.1 hpending.2] at h
    exact .inr h
  · have hnone : s.xgdbg = false ∨ s.startPending = false := by simpa [Decidable.imp_iff_not_or] using hpending
    rw [leaveDebug_of_not_pending hnone] at h
    exact .inl ⟨hnone, (Host.Outcome.next.inj h).symm⟩

/-- The conditions of a single step (R380, R384). -/
structure MaySingleStep (s : State) : Prop where
  halted : s.xgdbg = true
  noError : s.xgsweif = false
  unsecured : s.chip.secured = false
  thread : s.xgchid ≠ 0
  notPending : s.startPending = false

theorem singleStep_of_may {s : State} (h : MaySingleStep s) : singleStep s = executeOne s := by
  obtain ⟨hdebug, herror, hsecured, hthread, hpending⟩ := h
  rw [singleStep, if_pos]
  simp only [hdebug, herror, hsecured, hpending, bne_iff_ne.mpr hthread, Bool.not_false, Bool.and_self]

theorem singleStep_of_not {s : State} (h : ¬ MaySingleStep s) : singleStep s = .next s := by
  rw [singleStep, if_neg]
  simp only [Bool.and_eq_true, Bool.not_eq_true', bne_iff_ne]
  exact fun ⟨⟨⟨⟨hdebug, herror⟩, hsecured⟩, hthread⟩, hpending⟩ => h ⟨hdebug, herror, hsecured, hthread, hpending⟩

theorem stepPart_next {v : Byte} {s t : State} (h : stepPart v s = .next t) :
    t = s ∨ (v.getLsbD s.chip.xgssBit.index = true ∧ MaySingleStep s ∧ executeOne s = .next t) := by
  rw [stepPart] at h
  split_ifs at h with hbit
  · by_cases hmay : MaySingleStep s
    · exact .inr ⟨hbit, hmay, singleStep_of_may hmay ▸ h⟩
    · rw [singleStep_of_not hmay] at h
      exact .inl (Host.Outcome.next.inj h).symm
  · exact .inl (Host.Outcome.next.inj h).symm

theorem debugPart_next {v : Byte} {s t : State} (h : debugPart v s = .next t) :
    (v.getLsbD 5 = false ∧ t = s) ∨ (v.getLsbD 5 = true ∧ v.getLsbD 4 = true ∧ t = requestDebug s) ∨
      (v.getLsbD 5 = true ∧ v.getLsbD 4 = false ∧ leaveDebug s = .next t) := by
  rw [debugPart] at h
  split_ifs at h with h5 h4
  · exact .inr (.inl ⟨h5, h4, (Host.Outcome.next.inj h).symm⟩)
  · exact .inr (.inr ⟨h5, by simpa using h4, h⟩)
  · exact .inl ⟨by simpa using h5, (Host.Outcome.next.inj h).symm⟩

/-- The last effect of a write to XGMCTL on a state. -/
def State.clearedBy (s : State) (v : Byte) : State :=
  if v.getLsbD 1 && s.xgsweif then { s with xgsweif := false, xgchid := 0, startPending := false } else s

/-- The parts of a write to XGMCTL that answers a state. -/
theorem writeXgmctl_next {v : Byte} {s t : State} (h : writeXgmctl v s = .next t) :
    ∃ u w, debugPart v (s.withControl v) = .next u ∧ stepPart v u = .next w ∧ t = w.clearedBy v := by
  rw [writeXgmctl_eq, clearingError] at h
  obtain ⟨w, hw, rfl⟩ := onNext_next.mp h
  obtain ⟨u, hu, hstep⟩ := thenDo_next.mp hw
  exact ⟨u, w, hu, hstep, rfl⟩

theorem inv_requestDebug {s : State} (hs : s.Inv) : (requestDebug s).Inv ∧ (requestDebug s).chip = s.chip := by
  rw [requestDebug]
  split_ifs
  · exact ⟨hs, rfl⟩
  · exact ⟨hs.of_eq rfl rfl rfl rfl hs.start, rfl⟩
  · exact ⟨inv_enterDebug hs, rfl⟩

theorem inv_withoutDebug {s : State} (hs : s.Inv) (hidle : s.startPending = false) : s.withoutDebug.Inv :=
  hs.of_eq rfl rfl rfl rfl fun hpending => not_pending_absurd hidle hpending

theorem inv_leaveDebug {s t : State} (hs : s.Inv) (h : leaveDebug s = .next t) : t.Inv ∧ t.chip = s.chip := by
  rcases leaveDebug_next h with ⟨hnone, rfl⟩ | hstart
  · exact ⟨inv_withoutDebug hs (hnone.elim hs.not_pending id), rfl⟩
  · have hstarting : State.Inv { s.withoutDebug with startPending := false } := hs.of_eq rfl rfl rfl rfl nofun
    obtain ⟨ht, hchip⟩ := inv_startThread hstarting rfl hstart
    exact ⟨ht, hchip⟩

theorem inv_debugPart {v : Byte} {s t : State} (hs : s.Inv) (h : debugPart v s = .next t) : t.Inv ∧ t.chip = s.chip := by
  rcases debugPart_next h with ⟨-, rfl⟩ | ⟨-, -, rfl⟩ | ⟨-, -, hleave⟩
  · exact ⟨hs, rfl⟩
  · exact inv_requestDebug hs
  · exact inv_leaveDebug hs hleave

theorem inv_stepPart {v : Byte} {s t : State} (hs : s.Inv) (h : stepPart v s = .next t) : t.Inv ∧ t.chip = s.chip := by
  rcases stepPart_next h with rfl | ⟨-, hmay, hexecute⟩
  · exact ⟨hs, rfl⟩
  · exact inv_executeOne hs hmay.notPending hexecute

theorem inv_clearedBy {s : State} (hs : s.Inv) (v : Byte) : (s.clearedBy v).Inv ∧ (s.clearedBy v).chip = s.chip := by
  rw [State.clearedBy]
  split_ifs
  · exact ⟨hs.of_eq rfl rfl rfl rfl nofun, rfl⟩
  · exact ⟨hs, rfl⟩

theorem inv_writeXgmctl {v : Byte} {s t : State} (hs : s.Inv) (h : writeXgmctl v s = .next t) :
    t.Inv ∧ t.chip = s.chip := by
  obtain ⟨u, w, hdebug, hstep, rfl⟩ := writeXgmctl_next h
  have hcontrol : (s.withControl v).Inv := hs.of_eq rfl rfl rfl rfl hs.start
  obtain ⟨hu, hchip⟩ := inv_debugPart hcontrol hdebug
  obtain ⟨hw, hchip'⟩ := inv_stepPart hu hstep
  obtain ⟨ht, hchip''⟩ := inv_clearedBy hw v
  exact ⟨ht, hchip''.trans (hchip'.trans hchip)⟩

/-! ## The host's write to XGCHID (R42, R381) -/

theorem inv_writeXgchid {s : State} (hs : s.Inv) (id : BitVec 7) :
    (writeXgchid id s).Inv ∧ (writeXgchid id s).chip = s.chip := by
  rw [writeXgchid]
  split_ifs with hdebug hid
  · exact ⟨hs.of_eq rfl rfl rfl rfl fun _ => ⟨hdebug, by simpa using hid⟩, rfl⟩
  · exact ⟨hs.of_eq rfl rfl rfl rfl fun _ => ⟨hdebug, by simpa using hid⟩, rfl⟩
  · exact ⟨hs.of_eq rfl rfl rfl rfl nofun, rfl⟩
  · exact ⟨hs, rfl⟩
  · exact ⟨hs, rfl⟩

/-! ## Reset (R400) -/

theorem reset_or_vbrWritable (c : Chip) : (0x000FFE00 : BitVec 32) ||| vbrWritable c = 0x000FFFFE := by
  rw [vbrWritable]
  split_ifs <;> rfl

/-- Reset meets the invariant on every chip that the decisions allow. -/
theorem inv_resetModule {s : State} (hchip : s.chip.wellFormed = true) : (resetModule s).Inv where
  ram := reset_wf
  chip := hchip
  vbr := reset_or_vbrWritable s.chip
  flags := BitVec.zero_and
  start := nofun

/-- Settles O8: reset on the chip a run from reset is on. -/
theorem resetMeetsTheInvariant : Obligations.ResetMeetsTheInvariant where
  ram := reset_wf
  chip := by decide
  vbr := reset_or_vbrWritable _
  flags := BitVec.zero_and
  start := nofun

/-! ## The other events

All of them leave the debug mode, the error, the thread and the flags of XGIF alone, but for the host's clearing of flags
and for a forced breakpoint, which can only enter debug mode. -/

/-- What every event but the core's step, reset and the writes to XGMCTL and XGCHID keeps. -/
structure Quiet (s t : State) : Prop where
  xgdbg : s.xgdbg = true → t.xgdbg = true
  xgsweif : t.xgsweif = s.xgsweif
  xgchid : t.xgchid = s.xgchid
  xgif : ∀ n, t.xgif.getLsbD n = true → s.xgif.getLsbD n = true
  inv : s.Inv → t.Inv
  chip : t.chip = s.chip

theorem Quiet.trans {s t u : State} (h : Quiet s t) (h' : Quiet t u) : Quiet s u where
  xgdbg := h'.xgdbg ∘ h.xgdbg
  xgsweif := h'.xgsweif.trans h.xgsweif
  xgchid := h'.xgchid.trans h.xgchid
  xgif n := h.xgif n ∘ h'.xgif n
  inv := h'.inv ∘ h.inv
  chip := h'.chip.trans h.chip

/-- A change of the core's registers, the triggers, the semaphores, the inputs and the records only. -/
theorem Quiet.of_frame {s t : State}
    (h : t = { s with
      regs := t.regs, pc := t.pc, ccr := t.ccr, xgswt := t.xgswt, sem := t.sem, reqLines := t.reqLines
      triggerRoute := t.triggerRoute, freezeInput := t.freezeInput, tagged := t.tagged, periph := t.periph
      hostData := t.hostData, draws := t.draws }) : Quiet s t := by
  rw [h]
  exact ⟨id, rfl, rfl, fun _ => id, fun hs => hs.of_eq rfl rfl rfl rfl hs.start, rfl⟩

theorem Quiet.refl (s : State) : Quiet s s := .of_frame rfl

theorem Quiet.setGlobalByte (s : State) (g : BitVec 20) (v : Byte) : Quiet s (s.setGlobalByte g v) :=
  ⟨id, rfl, rfl, fun _ => id, fun hs => ⟨setGlobalByte_wf g v hs.ram, hs.chip, hs.vbr, hs.flags, hs.start⟩, rfl⟩

/-- A write under a mask inside the writable bits keeps the other ones. -/
theorem replaceUnder_or {n : Nat} (old new part writable : BitVec n) :
    ((old &&& ~~~(part &&& writable)) ||| (new &&& (part &&& writable))) ||| writable = old ||| writable := by
  apply BitVec.eq_of_getLsbD_eq
  intro i hi
  simp only [BitVec.getLsbD_or, BitVec.getLsbD_and, BitVec.getLsbD_not, hi, decide_true, Bool.true_and]
  cases writable.getLsbD i <;> simp

theorem Quiet.writeXgvbr (k : Nat) (v : Byte) (s : State) : Quiet s (writeXgvbr k v s) := by
  rw [Machine.writeXgvbr]
  split_ifs
  · exact ⟨id, rfl, rfl, fun _ => id,
      fun hs => ⟨hs.ram, hs.chip, (replaceUnder_or _ _ _ _).trans hs.vbr, hs.flags, hs.start⟩, rfl⟩
  · exact .refl s

theorem Quiet.writeXgif (k : Nat) (v : Byte) (s : State) : Quiet s (writeXgif k v s) where
  xgdbg := id
  xgsweif := rfl
  xgchid := rfl
  xgif n h := by
    rw [Machine.writeXgif, BitVec.getLsbD_and, Bool.and_eq_true] at h
    exact h.1
  inv hs := ⟨hs.ram, hs.chip, hs.vbr, by
    change s.xgif &&& _ &&& ~~~s.chip.channels = 0
    rw [BitVec.and_assoc, BitVec.and_comm (~~~(v.setWidth 128 <<< (8 * k))), ← BitVec.and_assoc, hs.flags]
    exact BitVec.zero_and, hs.start⟩
  chip := rfl

theorem Quiet.writeCoreByte (n : Nat) (v : Byte) (s : State) : Quiet s (writeCoreByte n v s) := by
  rw [Machine.writeCoreByte]
  split_ifs <;> exact .of_frame rfl

theorem Quiet.requestDebug (s : State) : Quiet s (requestDebug s) := by
  refine ⟨fun hdebug => ?_, ?_, ?_, ?_, fun hs => (inv_requestDebug hs).1, ?_⟩
  · rw [Machine.requestDebug, if_pos hdebug, hdebug]
  all_goals rw [Machine.requestDebug]; split_ifs <;> simp [enterDebug]

/-- A byte write of the host outside XGMCTL and XGCHID. -/
theorem Quiet.hostWriteByte {off : BitVec 6} {v : Byte} {s t : State} (h : hostWriteByte off v s = .next t)
    (hxgmctl : off ≠ 0x00) (hxgchid : off ≠ 0x02) : Quiet s t := by
  have h0 : off.toNat ≠ 0x00 := fun heq => hxgmctl (BitVec.eq_of_toNat_eq heq)
  have h2 : off.toNat ≠ 0x02 := fun heq => hxgchid (BitVec.eq_of_toNat_eq heq)
  simp only [Machine.hostWriteByte, if_neg h0, if_neg h2] at h
  split_ifs at h <;> cases h
  · exact .writeXgvbr _ _ _
  · exact .writeXgif _ _ _
  · exact .writeCoreByte _ _ _
  · exact .refl _

/-- Neither byte of a 16-bit register is XGMCTL or XGCHID. -/
theorem isWordOffset_ne : ∀ off : BitVec 6, isWordOffset off.toNat = true →
    (off ≠ 0x00 ∧ off ≠ 0x02) ∧ off + 1 ≠ 0x00 ∧ off + 1 ≠ 0x02 := by decide

theorem Quiet.hostWriteWord {off : BitVec 6} {v : Word} {s t : State} (h : hostWriteWord off v s = .next t) :
    Quiet s t := by
  simp only [Machine.hostWriteWord] at h
  split_ifs at h with hword
  · cases h
    exact .of_frame rfl
  · cases h
    exact .of_frame rfl
  · obtain ⟨⟨h0, h2⟩, h0', h2'⟩ := isWordOffset_ne off hword
    obtain ⟨u, hhigh, hlow⟩ := thenDo_next.mp h
    exact (Quiet.hostWriteByte hhigh h0 h2).trans (.hostWriteByte hlow h0' h2')

/-- Every event is the core's step, a write to XGMCTL or XGCHID, reset, or one that changes nothing of these. -/
theorem applyEvent_next {e : Event} {s t : State} (h : applyEvent e s = .next t) :
    e = .core ∨ (∃ v, e = .hostWriteByte 0x00 v) ∨ (∃ v, e = .hostWriteByte 0x02 v) ∨ e = .reset ∨ Quiet s t := by
  cases e with
  | core => exact .inl rfl
  | reset => exact .inr (.inr (.inr (.inl rfl)))
  | hostWriteByte off v =>
    by_cases h0 : off = 0x00
    · exact .inr (.inl ⟨v, by rw [h0]⟩)
    by_cases h2 : off = 0x02
    · exact .inr (.inr (.inl ⟨v, by rw [h2]⟩))
    exact .inr (.inr (.inr (.inr (.hostWriteByte h h0 h2))))
  | hostWriteWord off v => exact .inr (.inr (.inr (.inr (.hostWriteWord h))))
  | forcedBreakpoint =>
    cases h
    exact .inr (.inr (.inr (.inr (.requestDebug s))))
  | hostRamWriteByte g v =>
    simp only [applyEvent, hostRamWriteByte] at h
    split_ifs at h
    cases h
    exact .inr (.inr (.inr (.inr (.setGlobalByte s g v))))
  | hostRamWriteWord g v =>
    simp only [applyEvent, hostRamWriteWord] at h
    split_ifs at h
    cases h
    exact .inr (.inr (.inr (.inr ((Quiet.setGlobalByte s g _).trans (.setGlobalByte _ _ _)))))
  | request | routeTrigger | freeze =>
    cases h
    exact .inr (.inr (.inr (.inr (.of_frame rfl))))
  | tag =>
    cases h
    refine .inr (.inr (.inr (.inr ?_)))
    split_ifs <;> exact .of_frame rfl
  | _ =>
    simp only [applyEvent, hostReadByte, hostReadWord, hostRamReadByte, hostRamReadWord, hostPeriphWrite,
      hostPeriphRead] at h
    split_ifs at h
    cases h
    exact .inr (.inr (.inr (.inr (.of_frame rfl))))

/-! ## Every step -/

/-- The state in which the next mover finds the machine: its event is taken off the list. -/
def State.dequeued (s : State) : State := { s with env := s.env.tail }

/-- Who moved, and what it left (R392 to R394). -/
theorem step_next {s t : State} (h : step s = .next t) :
    ((s.env = [] ∨ s.env.head? = some .core) ∧ coreStep s.dequeued = .next t) ∨
      (∃ v, s.env.head? = some (.hostWriteByte 0x00 v) ∧ writeXgmctl v s.dequeued = .next t) ∨
      (∃ v : Byte, s.env.head? = some (.hostWriteByte 0x02 v) ∧ t = writeXgchid (v.setWidth 7) s.dequeued) ∨
      (s.env.head? = some .reset ∧ t = resetModule s.dequeued) ∨ Quiet s.dequeued t := by
  cases henv : s.env with
  | nil =>
    have hsame : s.dequeued = s := by rw [State.dequeued, henv, List.tail_nil, ← henv]
    exact .inl ⟨.inl rfl, by rw [hsame, ← step_of_empty henv, h]⟩
  | cons e rest =>
    have hnext : applyEvent e s.dequeued = .next t := by
      rw [State.dequeued, henv, ← h, step_of_event henv, List.tail_cons]
    rcases applyEvent_next hnext with rfl | ⟨v, rfl⟩ | ⟨v, rfl⟩ | rfl | hquiet
    · exact .inl ⟨.inr rfl, hnext⟩
    · exact .inr (.inl ⟨v, rfl, hnext⟩)
    · exact .inr (.inr (.inl ⟨v, rfl, (Host.Outcome.next.inj hnext).symm⟩))
    · exact .inr (.inr (.inr (.inl ⟨rfl, (Host.Outcome.next.inj hnext).symm⟩)))
    · exact .inr (.inr (.inr (.inr hquiet)))

/-- Settles O9: each of the five kinds of step keeps the invariant. -/
theorem everyStepKeepsTheInvariant : Obligations.EveryStepKeepsTheInvariant := by
  intro s t hs h
  have hdequeued : s.dequeued.Inv := hs.of_eq rfl rfl rfl rfl hs.start
  rcases step_next h with ⟨-, hcore⟩ | ⟨v, -, hwrite⟩ | ⟨v, -, rfl⟩ | ⟨-, rfl⟩ | hquiet
  · exact inv_coreStep (s := s.dequeued) hdequeued hcore
  · exact inv_writeXgmctl (s := s.dequeued) hdequeued hwrite
  · exact inv_writeXgchid hdequeued _
  · exact ⟨inv_resetModule hs.chip, rfl⟩
  · exact ⟨hquiet.inv hdequeued, hquiet.chip⟩

end Sys2Proof.Machine
end

section
/-! What can end a thread, leave debug mode, clear a flagged error or set a flag of XGIF (10_state.md, section 2;
60_exceptions.md, sections 2, 3 and 5; 47_special.md). -/

namespace Sys2Proof.Machine

/-! ## One instruction -/

theorem executeOne_keeps {s t : State} (h : executeOne s = .next t) :
    (s.xgdbg = true → t.xgdbg = true) ∧ (s.xgsweif = true → t.xgsweif = true) := by
  rcases executeOne_next h with ⟨which, a, rfl⟩ | ⟨i, -, heffect⟩
  · exact ⟨id, fun _ => rfl⟩
  · refine ⟨fun hdebug => ?_, fun herror => ?_⟩
    · rcases heffect.xgdbg with hsame | ⟨-, hset⟩
      · rw [hsame, hdebug]
      · exact hset
    · rcases heffect.xgsweif with hsame | ⟨hset, -⟩
      · rw [hsame, herror]
      · exact hset

/-- Only RTS ends the thread. -/
theorem executeOne_xgchid {s t : State} (h : executeOne s = .next t) :
    t.xgchid = s.xgchid ∨ decodeWord (s.ramWord s.pc) = .ok .rts := by
  rcases executeOne_next h with ⟨which, a, rfl⟩ | ⟨i, hdecode, heffect⟩
  · exact .inl rfl
  · rcases heffect.xgchid with hsame | ⟨rfl, -⟩
    · exact .inl hsame
    · exact .inr hdecode

/-- SIF, in one of its two forms, stands at pc. -/
def State.atSif (s : State) : Prop :=
  decodeWord (s.ramWord s.pc) = .ok .sif ∨ ∃ rs, decodeWord (s.ramWord s.pc) = .ok (.sifReg rs)

/-- Only SIF sets flags of XGIF. -/
theorem executeOne_xgif {s t : State} (h : executeOne s = .next t) : t.xgif = s.xgif ∨ s.atSif := by
  rcases executeOne_next h with ⟨which, a, rfl⟩ | ⟨i, hdecode, heffect⟩
  · exact .inl rfl
  · rcases heffect.xgif with hsame | ⟨rfl | ⟨rs, rfl⟩, -⟩
    · exact .inl hsame
    · exact .inr (.inl hdecode)
    · exact .inr (.inr ⟨rs, hdecode⟩)

/-! ## Thread start and debug requests -/

theorem startThread_keeps {n : BitVec 7} {s t : State} (h : startThread n s = .next t) :
    t.xgdbg = s.xgdbg ∧ t.xgchid = n ∧ t.xgif = s.xgif ∧ (s.xgsweif = true → t.xgsweif = true) := by
  rcases startThread_next h with ⟨p, v, -, -, rfl⟩ | ⟨a, -, rfl⟩
  · exact ⟨rfl, rfl, rfl, id⟩
  · exact ⟨rfl, rfl, rfl, fun _ => rfl⟩

theorem finishDebug_frame (s : State) : finishDebug s = { s with
    xgdbg := (finishDebug s).xgdbg, dbgReq := (finishDebug s).dbgReq, tagged := (finishDebug s).tagged } := by
  rw [finishDebug]
  split_ifs <;> rfl

theorem requestDebug_frame (s : State) : requestDebug s = { s with
    xgdbg := (requestDebug s).xgdbg, dbgReq := (requestDebug s).dbgReq, tagged := (requestDebug s).tagged } := by
  rw [requestDebug]
  split_ifs <;> rfl

/-- Entered at once, debug mode was there before, or the core was not running. -/
theorem requestDebug_halts {s : State} (h : (requestDebug s).xgdbg = true) : s.xgdbg = true ∨ runState s ≠ .running := by
  by_cases hdebug : s.xgdbg = true
  · exact .inl hdebug
  · refine .inr fun hrun => hdebug ?_
    rwa [requestDebug, if_neg hdebug, if_pos hrun] at h

/-! ## The parts of a write to XGMCTL -/

theorem debugPart_keeps {v : Byte} {s t : State} (h : debugPart v s = .next t) :
    t.xgchid = s.xgchid ∧ t.xgif = s.xgif ∧ (s.xgsweif = true → t.xgsweif = true) := by
  rcases debugPart_next h with ⟨-, rfl⟩ | ⟨-, -, rfl⟩ | ⟨-, -, hleave⟩
  · exact ⟨rfl, rfl, id⟩
  · rw [requestDebug_frame]
    exact ⟨rfl, rfl, id⟩
  · rcases leaveDebug_next hleave with ⟨-, rfl⟩ | hstart
    · exact ⟨rfl, rfl, id⟩
    · exact (startThread_keeps hstart).2

theorem not_halted_after_leaveDebug {s t : State} (h : leaveDebug s = .next t) : t.xgdbg = false := by
  rcases leaveDebug_next h with ⟨-, rfl⟩ | hstart
  · rfl
  · exact (startThread_keeps hstart).1

/-- A core that is halted after the write's effect on XGDBG was not told to leave debug mode. -/
theorem halted_after_debugPart {v : Byte} {s t : State} (h : debugPart v s = .next t) (hdebug : t.xgdbg = true) :
    (v.getLsbD 5 = false ∧ t = s) ∨ (v.getLsbD 5 = true ∧ v.getLsbD 4 = true ∧ t = requestDebug s) := by
  rcases debugPart_next h with hnone | hrequest | ⟨-, -, hleave⟩
  · exact .inl hnone
  · exact .inr hrequest
  · exact absurd hdebug (ne_true_of_eq_false (not_halted_after_leaveDebug hleave))

theorem stepPart_keeps {v : Byte} {s t : State} (h : stepPart v s = .next t) :
    (s.xgdbg = true → t.xgdbg = true) ∧ (s.xgsweif = true → t.xgsweif = true) := by
  rcases stepPart_next h with rfl | ⟨-, -, hexecute⟩
  · exact ⟨id, id⟩
  · exact executeOne_keeps hexecute

theorem clearedBy_cases (s : State) (v : Byte) :
    (v.getLsbD 1 = true ∧ s.xgsweif = true ∧
      s.clearedBy v = { s with xgsweif := false, xgchid := 0, startPending := false }) ∨
    ((v.getLsbD 1 = false ∨ s.xgsweif = false) ∧ s.clearedBy v = s) := by
  by_cases hclear : v.getLsbD 1 = true ∧ s.xgsweif = true
  · exact .inl ⟨hclear.1, hclear.2, by rw [State.clearedBy, if_pos (by simpa using hclear)]⟩
  · exact .inr ⟨by simpa [Decidable.imp_iff_not_or] using hclear,
      by rw [State.clearedBy, if_neg (by simpa using hclear)]⟩

theorem xgdbg_clearedBy (s : State) (v : Byte) : (s.clearedBy v).xgdbg = s.xgdbg := by
  rcases clearedBy_cases s v with ⟨-, -, heq⟩ | ⟨-, heq⟩ <;> rw [heq]

theorem xgif_clearedBy (s : State) (v : Byte) : (s.clearedBy v).xgif = s.xgif := by
  rcases clearedBy_cases s v with ⟨-, -, heq⟩ | ⟨-, heq⟩ <;> rw [heq]

theorem writeXgmctl_of_parts {v : Byte} {s u w : State} (hdebug : debugPart v (s.withControl v) = .next u)
    (hstep : stepPart v u = .next w) : writeXgmctl v s = .next (w.clearedBy v) := by
  rw [writeXgmctl_eq, hdebug, thenDo_of_next, hstep]
  rfl

/-- Before the single step of a halted core the write changed nothing that the core's next instruction depends on. -/
theorem ramWord_of_halted {v : Byte} {s u : State} (h : debugPart v (s.withControl v) = .next u)
    (hdebug : u.xgdbg = true) : u.ramWord u.pc = s.ramWord s.pc := by
  rcases halted_after_debugPart h hdebug with ⟨-, rfl⟩ | ⟨-, -, rfl⟩
  · rfl
  · rw [requestDebug_frame]
    rfl

theorem getLsbD_and_notBit1 (v : Byte) {i : Nat} (hi : i < 8) (h1 : i ≠ 1) : (v &&& 0xFD).getLsbD i = v.getLsbD i := by
  have hmask : ∀ i < 8, i ≠ 1 → (0xFD : Byte).getLsbD i = true := by decide
  rw [BitVec.getLsbD_and, hmask i hi h1, Bool.and_true]

/-- The bit of XGSS is none of the other control bits. -/
theorem xgss_index (b : XgssBit) : b.index < 8 ∧ b.index ≠ 1 := by cases b <;> decide

/-- The same write without the clear of XGSWEIF. -/
theorem writeXgmctl_notBit1 {v : Byte} {s u w : State} (hdebug : debugPart v (s.withControl v) = .next u)
    (hstep : stepPart v u = .next w) : writeXgmctl (v &&& 0xFD) s = .next w := by
  have hcontrol : s.withControl (v &&& 0xFD) = s.withControl v := by
    simp only [State.withControl, getLsbD_and_notBit1 v (show 7 < 8 by decide) (by decide),
      getLsbD_and_notBit1 v (show 6 < 8 by decide) (by decide), getLsbD_and_notBit1 v (show 0 < 8 by decide) (by decide)]
  have hdebug' : debugPart (v &&& 0xFD) (s.withControl (v &&& 0xFD)) = .next u := by
    rw [hcontrol, ← hdebug]
    simp only [debugPart, getLsbD_and_notBit1 v (show 5 < 8 by decide) (by decide),
      getLsbD_and_notBit1 v (show 4 < 8 by decide) (by decide)]
  have hstep' : stepPart (v &&& 0xFD) u = .next w := by
    rw [← hstep, stepPart, stepPart, getLsbD_and_notBit1 v (xgss_index _).1 (xgss_index _).2]
  have hclear : (v &&& 0xFD).getLsbD 1 = false := by
    rw [BitVec.getLsbD_and]
    exact Bool.and_false _
  rw [writeXgmctl_of_parts hdebug' hstep', State.clearedBy, hclear, Bool.false_and]
  rfl

/-! ## Leaving debug mode and clearing the error -/

theorem coreStep_keeps {s t : State} (h : coreStep s = .next t) :
    (s.xgdbg = true → t.xgdbg = true) ∧ (s.xgsweif = true → t.xgsweif = true) := by
  rcases coreStep_next h with rfl | ⟨hdebug, -, n, hstart⟩ | ⟨-, rfl⟩ | ⟨-, u, hexecute, rfl⟩
  · exact ⟨id, id⟩
  · obtain ⟨hsame, -, -, herror⟩ := startThread_keeps hstart
    exact ⟨hsame.trans, herror⟩
  · exact ⟨fun _ => rfl, id⟩
  · obtain ⟨hdebug, herror⟩ := executeOne_keeps hexecute
    rw [finishDebug]
    split_ifs
    · exact ⟨fun _ => rfl, herror⟩
    · exact ⟨hdebug, herror⟩

theorem writeXgmctl_leaves {v : Byte} {s t : State} (h : writeXgmctl v s = .next t) (hdebug : s.xgdbg = true)
    (hleft : t.xgdbg = false) : v.getLsbD 5 = true ∧ v.getLsbD 4 = false := by
  obtain ⟨u, w, hpart, hstep, rfl⟩ := writeXgmctl_next h
  rw [xgdbg_clearedBy] at hleft
  have hu : ¬ u.xgdbg = true := fun hu => ne_true_of_eq_false hleft ((stepPart_keeps hstep).1 hu)
  rcases debugPart_next hpart with ⟨-, rfl⟩ | ⟨-, -, rfl⟩ | ⟨h5, h4, -⟩
  · exact absurd hdebug hu
  · exact absurd ((Quiet.requestDebug (s.withControl v)).xgdbg hdebug) hu
  · exact ⟨h5, h4⟩

theorem writeXgmctl_clears {v : Byte} {s t : State} (h : writeXgmctl v s = .next t) (herror : s.xgsweif = true)
    (hcleared : t.xgsweif = false) : v.getLsbD 1 = true := by
  obtain ⟨u, w, hpart, hstep, rfl⟩ := writeXgmctl_next h
  have hw : w.xgsweif = true := (stepPart_keeps hstep).2 ((debugPart_keeps hpart).2.2 herror)
  rcases clearedBy_cases w v with ⟨hclear, -, -⟩ | ⟨-, heq⟩
  · exact hclear
  · rw [heq] at hcleared
    exact absurd hw (ne_true_of_eq_false hcleared)

theorem writeXgchid_keeps (id : BitVec 7) (s : State) :
    (writeXgchid id s).xgdbg = s.xgdbg ∧ (writeXgchid id s).xgsweif = s.xgsweif ∧ (writeXgchid id s).xgif = s.xgif := by
  rw [writeXgchid]
  split_ifs <;> exact ⟨rfl, rfl, rfl⟩

/-- Settles O50: of the five kinds of step only reset and the write to XGMCTL can do either. -/
theorem onlyTheHostLeavesDebugModeAndClearsTheError : Obligations.OnlyTheHostLeavesDebugModeAndClearsTheError := by
  intro s t h
  rcases step_next h with ⟨-, hcore⟩ | ⟨v, hevent, hwrite⟩ | ⟨v, -, rfl⟩ | ⟨hevent, -⟩ | hquiet
  · obtain ⟨hdebug, herror⟩ := coreStep_keeps hcore
    exact ⟨fun hs ht => absurd (hdebug hs) (ne_true_of_eq_false ht),
      fun hs ht => absurd (herror hs) (ne_true_of_eq_false ht)⟩
  · exact ⟨fun hs ht => .inr ⟨v, hevent, writeXgmctl_leaves hwrite hs ht⟩,
      fun hs ht => .inr ⟨v, hevent, writeXgmctl_clears hwrite hs ht⟩⟩
  · obtain ⟨hdebug, herror, -⟩ := writeXgchid_keeps (v.setWidth 7) s.dequeued
    exact ⟨fun hs ht => absurd (hdebug.trans hs) (ne_true_of_eq_false ht),
      fun hs ht => absurd (herror.trans hs) (ne_true_of_eq_false ht)⟩
  · exact ⟨fun _ _ => .inl hevent, fun _ _ => .inl hevent⟩
  · exact ⟨fun hs ht => absurd (hquiet.xgdbg hs) (ne_true_of_eq_false ht),
      fun hs ht => absurd (hquiet.xgsweif.trans hs) (ne_true_of_eq_false ht)⟩

/-! ## The end of a thread -/

/-- The core by itself ends a thread only by RTS, running. -/
theorem coreStep_ends {s t : State} (h : coreStep s = .next t) (hthread : s.xgchid ≠ 0) (hended : t.xgchid = 0) :
    s.xgdbg = false ∧ s.xgsweif = false ∧ decodeWord (s.ramWord s.pc) = .ok .rts := by
  rcases coreStep_next h with rfl | ⟨-, hidle, -⟩ | ⟨-, rfl⟩ | ⟨hrun, u, hexecute, rfl⟩
  · exact absurd hended hthread
  · exact absurd hidle hthread
  · exact absurd hended hthread
  · obtain ⟨hdebug, herror, -, -⟩ := (runState_eq_running_iff s).mp hrun
    rw [finishDebug_frame] at hended
    rcases executeOne_xgchid hexecute with hsame | hrts
    · exact absurd (hsame.symm.trans hended) hthread
    · exact ⟨hdebug, herror, hrts⟩

/-- A thread that a write to XGMCTL ends without clearing an error is one that it single-stepped. -/
theorem stepped_of_ended {v : Byte} {s u w : State} (hpart : debugPart v (s.withControl v) = .next u)
    (hstep : stepPart v u = .next w) (hthread : s.xgchid ≠ 0) (hended : w.xgchid = 0) :
    v.getLsbD u.chip.xgssBit.index = true ∧ MaySingleStep u ∧ decodeWord (s.ramWord s.pc) = .ok .rts := by
  have hu : u.xgchid ≠ 0 := (debugPart_keeps hpart).1.symm ▸ hthread
  rcases stepPart_next hstep with rfl | ⟨hbit, hmay, hexecute⟩
  · exact absurd hended hu
  · rcases executeOne_xgchid hexecute with hsame | hrts
    · exact absurd (hsame.symm.trans hended) hu
    · exact ⟨hbit, hmay, ramWord_of_halted hpart hmay.halted ▸ hrts⟩

/-- A core that can step was halted before the write, or is frozen and was halted by it. -/
theorem maySingleStep_after_debugPart {v : Byte} {s u : State} (hpart : debugPart v (s.withControl v) = .next u)
    (hmay : MaySingleStep u) (hthread : s.xgchid ≠ 0) :
    u.chip = s.chip ∧ s.xgsweif = false ∧ s.chip.secured = false ∧ s.startPending = false ∧
      ((s.xgdbg = true ∧ ¬ (v.getLsbD 5 = true ∧ v.getLsbD 4 = false)) ∨
        (v.getLsbD 5 = true ∧ v.getLsbD 4 = true ∧ s.freezeInput = true ∧ v.getLsbD 6 = true)) := by
  rcases halted_after_debugPart hpart hmay.halted with ⟨h5, rfl⟩ | ⟨h5, h4, rfl⟩
  · exact ⟨rfl, hmay.noError, hmay.unsecured, hmay.notPending, 
      .inl ⟨hmay.halted, fun hleave => absurd hleave.1 (ne_true_of_eq_false h5)⟩⟩
  · have hhalted := requestDebug_halts hmay.halted
    rw [requestDebug_frame] at hmay
    have herror : s.xgsweif = false := hmay.noError
    refine ⟨by rw [requestDebug_frame]; rfl, herror, hmay.unsecured, hmay.notPending, ?_⟩
    by_cases hdebug : s.xgdbg = true
    · exact .inl ⟨hdebug, fun hleave => absurd h4 (ne_true_of_eq_false hleave.2)⟩
    · have hstill : runState (s.withControl v) ≠ .running := hhalted.resolve_left hdebug
      rw [ne_eq, runState_eq_running_iff] at hstill
      have hfrozen : s.freezeInput = true ∧ v.getLsbD 6 = true := by
        by_contra hfree
        exact hstill ⟨eq_false_of_ne_true hdebug, herror, hfree, hthread⟩
      exact .inr ⟨h5, h4, hfrozen⟩

theorem writeXgchid_ends {v : Byte} {s : State} (hthread : s.xgchid ≠ 0)
    (hended : (writeXgchid (v.setWidth 7) s).xgchid = 0) :
    s.xgdbg = true ∧ v.toNat % 128 = 0 := by
  rw [writeXgchid] at hended
  split_ifs at hended with hdebug hid hactive hactive
  · exact absurd hended (by simpa using hid)
  · exact absurd hended (by simpa using hid)
  · have hzero : v.setWidth 7 = 0 := by simpa using hid
    exact ⟨hdebug, by simpa using congrArg BitVec.toNat hzero⟩
  · exact absurd hended hthread
  · exact absurd hended hthread

/-- Settles O49: of the five kinds of step, reset and three others can end a thread, each in its own way. -/
theorem aThreadEndsInThreeWaysOnly : Obligations.AThreadEndsInThreeWaysOnly := by
  intro s t hthread h hended
  rcases step_next h with ⟨hevent, hcore⟩ | ⟨v, hevent, hwrite⟩ | ⟨v, hevent, rfl⟩ | ⟨hevent, -⟩ | hquiet
  · exact .inl ⟨hevent, coreStep_ends (s := s.dequeued) hcore hthread hended⟩
  · refine .inr (.inl ⟨v, hevent, ?_⟩)
    obtain ⟨u, w, hpart, hstep, rfl⟩ := writeXgmctl_next hwrite
    rcases clearedBy_cases w v with ⟨hclear, herror, heq⟩ | ⟨-, heq⟩
    · exact .inl ⟨hclear, by rw [heq], w, writeXgmctl_notBit1 hpart hstep, herror⟩
    · rw [heq] at hended
      obtain ⟨hbit, hmay, hrts⟩ := stepped_of_ended hpart hstep hthread hended
      obtain ⟨hchip, hrest⟩ := maySingleStep_after_debugPart hpart hmay hthread
      exact .inr ⟨hchip ▸ hbit, hrts, hrest⟩
  · exact .inr (.inr (.inl ⟨v, hevent, writeXgchid_ends (s := s.dequeued) hthread hended⟩))
  · exact .inr (.inr (.inr hevent))
  · exact absurd (hquiet.xgchid.symm.trans hended) hthread

end Sys2Proof.Machine
end

section
/-! The host's writes to XGMCTL that touch XGDBG or XGSS, a forced breakpoint, and the host's writes to XGCHID
(10_state.md, section 2; 60_exceptions.md, section 5). -/

namespace Sys2Proof.Machine

/-! ## Debug requests (R374, R377) -/

theorem requestDebug_of_halted {s : State} (h : s.xgdbg = true) : requestDebug s = s := by
  rw [requestDebug, if_pos h]

theorem requestDebug_of_running {s : State} (h : runState s = .running) : requestDebug s = { s with dbgReq := true } := by
  have hdebug : ¬ s.xgdbg = true := ne_true_of_eq_false ((runState_eq_running_iff s).mp h).1
  rw [requestDebug, if_neg hdebug, if_pos h]

theorem requestDebug_of_not_running {s : State} (hdebug : s.xgdbg = false) (h : runState s ≠ .running) :
    requestDebug s = { s with xgdbg := true, tagged := false } := by
  rw [requestDebug, if_neg (ne_true_of_eq_false hdebug), if_neg h]
  rfl

/-- A debug request in the four run states outside debug mode: it waits for a running core and is taken at once by the
others (D21). -/
theorem requestDebug_outcomes (s : State) :
    (s.xgdbg = true → requestDebug s = s) ∧
    (s.xgdbg = false → s.xgsweif = false → (s.freezeInput = false ∨ s.xgfrz = false) → s.xgchid ≠ 0 →
      requestDebug s = { s with dbgReq := true }) ∧
    (s.xgdbg = false → (s.xgsweif = true ∨ (s.freezeInput = true ∧ s.xgfrz = true) ∨ s.xgchid = 0) →
      requestDebug s = { s with xgdbg := true, tagged := false }) := by
  refine ⟨requestDebug_of_halted, fun hdebug herror hfree hthread => requestDebug_of_running ?_,
    fun hdebug hstopped => requestDebug_of_not_running hdebug fun hrun => ?_⟩
  · refine (runState_eq_running_iff s).mpr ⟨hdebug, herror, fun hfrozen => ?_, hthread⟩
    rcases hfree with h | h
    · exact ne_true_of_eq_false h hfrozen.1
    · exact ne_true_of_eq_false h hfrozen.2
  · obtain ⟨-, herror, hfree, hthread⟩ := (runState_eq_running_iff s).mp hrun
    rcases hstopped with h | h | h
    · exact ne_true_of_eq_false herror h
    · exact hfree h
    · exact hthread h

/-- A write that only requests debug mode: no step, no clearing. -/
theorem writeXgmctl_of_request {v : Byte} {s : State} (h5 : v.getLsbD 5 = true) (h4 : v.getLsbD 4 = true)
    (h1 : v.getLsbD 1 = false) (hstep : v.getLsbD s.chip.xgssBit.index = false) :
    writeXgmctl v s = .next (requestDebug (s.withControl v)) := by
  have hpart : debugPart v (s.withControl v) = .next (requestDebug (s.withControl v)) := by
    rw [debugPart, if_pos h5, if_pos h4]
  have hchip : (requestDebug (s.withControl v)).chip = s.chip := by
    rw [requestDebug_frame]
    rfl
  have hnostep : stepPart v (requestDebug (s.withControl v)) = .next (requestDebug (s.withControl v)) := by
    rw [stepPart, hchip, hstep]
    rfl
  rw [writeXgmctl_of_parts hpart hnostep, State.clearedBy, h1, Bool.false_and]
  rfl

/-- Settles O52: both are a debug request, the write one of the state with its control bits written. -/
theorem debugRequestsWaitForTheInstruction : Obligations.DebugRequestsWaitForTheInstruction := by
  intro s
  refine ⟨?breakpoint, fun v h5 h4 h1 hstep => ?write⟩
  case breakpoint =>
    obtain ⟨hhalted, hrunning, hother⟩ := requestDebug_outcomes s
    exact ⟨fun hdebug => congrArg _ (hhalted hdebug),
      fun hdebug herror hfree hthread => congrArg _ (hrunning hdebug herror hfree hthread),
      fun hdebug hstopped => congrArg _ (hother hdebug hstopped)⟩
  case write =>
    obtain ⟨hhalted, hrunning, hother⟩ := requestDebug_outcomes (s.withControl v)
    rw [applyEvent_hostWriteByte_xgmctl, writeXgmctl_of_request h5 h4 h1 hstep]
    exact ⟨fun hdebug => congrArg _ (hhalted hdebug),
      fun hdebug herror hfree hthread => congrArg _ (hrunning hdebug herror hfree hthread),
      fun hdebug hstopped => congrArg _ (hother hdebug hstopped)⟩

/-! ## Leaving debug mode (R379) -/

/-- A second part that changes no state the first can leave has no effect. -/
theorem thenDo_eq_self {o : Host.Outcome State Fault Refusal} {f : State → Host.Outcome State Fault Refusal}
    (h : ∀ t, o = .next t → f t = .next t) : thenDo o f = o := by
  cases o with
  | next t => exact h t rfl
  | fault | refused => rfl

/-- No single step follows the leaving of debug mode: it needs a halted core. -/
theorem stepPart_after_leaveDebug (v : Byte) {s t : State} (h : leaveDebug s = .next t) : stepPart v t = .next t := by
  have hrunning : ¬ MaySingleStep t := fun hmay => ne_true_of_eq_false (not_halted_after_leaveDebug h) hmay.halted
  rw [stepPart, singleStep_of_not hrunning, ite_self]

theorem writeXgmctl_of_leave {v : Byte} (h5 : v.getLsbD 5 = true) (h4 : v.getLsbD 4 = false) (s : State) :
    writeXgmctl v s = clearingError v (leaveDebug (s.withControl v)) := by
  have hpart : debugPart v (s.withControl v) = leaveDebug (s.withControl v) := by
    rw [debugPart, if_pos h5, if_neg (ne_true_of_eq_false h4)]
  rw [writeXgmctl_eq, hpart, thenDo_eq_self fun _ => stepPart_after_leaveDebug v]

/-- Settles O54: the write is the leaving and then the clearing, with a pending start or without one. -/
theorem leavingDebugModeResumesOrStarts : Obligations.LeavingDebugModeResumesOrStarts := by
  intro s v h5 h4
  rw [applyEvent_hostWriteByte_xgmctl, writeXgmctl_of_leave h5 h4]
  exact ⟨fun ⟨hdebug, hpending⟩ => congrArg _ (leaveDebug_of_pending (s := s.withControl v) hdebug hpending),
    fun hnone => congrArg _ (leaveDebug_of_not_pending (s := s.withControl v) hnone)⟩

/-! ## The single step (R380) -/

theorem chip_of_debugPart {v : Byte} {s t : State} (h : debugPart v s = .next t) : t.chip = s.chip := by
  rcases debugPart_next h with ⟨-, rfl⟩ | ⟨-, -, rfl⟩ | ⟨-, -, hleave⟩
  · rfl
  · rw [requestDebug_frame]
  · rcases leaveDebug_next hleave with ⟨-, rfl⟩ | hstart
    · rfl
    · rcases startThread_next hstart with ⟨p, w, -, -, rfl⟩ | ⟨a, -, rfl⟩ <;> rfl

/-- The byte of the same write with XGSS and the clear of XGSWEIF taken out. -/
def withoutStep (b : XgssBit) (v : Byte) : Byte := v &&& ~~~(0x02#8 ||| (1#8 <<< b.index))

theorem getLsbD_withoutStep (b : XgssBit) (v : Byte) {i : Nat} (hi : i < 8) :
    (withoutStep b v).getLsbD i = (v.getLsbD i && decide (i ≠ 1 ∧ i ≠ b.index)) := by
  have hmask : ∀ i < 8, (~~~(0x02#8 ||| (1#8 <<< b.index))).getLsbD i = decide (i ≠ 1 ∧ i ≠ b.index) := by
    cases b <;> decide
  rw [withoutStep, BitVec.getLsbD_and, hmask i hi]

/-- Without XGSS and the clear, the write is its first two parts. -/
theorem writeXgmctl_withoutStep (v : Byte) (s : State) :
    writeXgmctl (withoutStep s.chip.xgssBit v) s = debugPart v (s.withControl v) := by
  have hkept : ∀ i < 8, i ≠ 1 → i ≠ 2 → i ≠ 3 → (withoutStep s.chip.xgssBit v).getLsbD i = v.getLsbD i := by
    intro i hi h1 h2 h3
    have hindex : i ≠ s.chip.xgssBit.index := by cases s.chip.xgssBit <;> assumption
    rw [getLsbD_withoutStep _ v hi, decide_eq_true ⟨h1, hindex⟩, Bool.and_true]
  have hcontrol : s.withControl (withoutStep s.chip.xgssBit v) = s.withControl v := by
    simp only [State.withControl, hkept 7 (by decide) (by decide) (by decide) (by decide),
      hkept 6 (by decide) (by decide) (by decide) (by decide), hkept 0 (by decide) (by decide) (by decide) (by decide)]
  have hdebug : debugPart (withoutStep s.chip.xgssBit v) (s.withControl v) = debugPart v (s.withControl v) := by
    simp only [debugPart, hkept 5 (by decide) (by decide) (by decide) (by decide),
      hkept 4 (by decide) (by decide) (by decide) (by decide)]
  have hclear (o : Host.Outcome State Fault Refusal) : clearingError (withoutStep s.chip.xgssBit v) o = o := by
    have h1 : (withoutStep s.chip.xgssBit v).getLsbD 1 = false := by
      rw [getLsbD_withoutStep _ v (by decide)]
      simp
    simp only [clearingError, h1, Bool.false_and]
    cases o <;> rfl
  rw [writeXgmctl_eq, hclear, hcontrol, hdebug]
  refine thenDo_eq_self fun t ht => ?_
  have hchip : t.chip = s.chip := chip_of_debugPart (s := s.withControl v) ht
  have hindex : (withoutStep s.chip.xgssBit v).getLsbD t.chip.xgssBit.index = false := by
    rw [hchip, getLsbD_withoutStep _ v (xgss_index _).1]
    simp
  rw [stepPart, hindex]
  rfl

/-- Settles O55: after the first two parts of the write, which leave `u`, the third is the step that `u` admits. -/
theorem singleStepRunsOneInstruction : Obligations.SingleStepRunsOneInstruction := by
  intro s u v hbit hwrite
  have hpart : debugPart v (s.withControl v) = .next u := by
    rw [← hwrite, applyEvent_hostWriteByte_xgmctl]
    exact (writeXgmctl_withoutStep v s).symm
  have hstep : applyEvent (.hostWriteByte 0x00 v) s = clearingError v (singleStep u) := by
    have hchip : u.chip = s.chip := chip_of_debugPart (s := s.withControl v) hpart
    rw [applyEvent_hostWriteByte_xgmctl, writeXgmctl_eq, hpart, thenDo_of_next, stepPart, hchip, if_pos hbit]
  rw [hstep]
  refine ⟨fun h5 => ?_, fun hdebug herror hsecured hthread hpending => ?_, fun hnot => ?_⟩
  · rw [debugPart, if_neg (ne_true_of_eq_false h5)] at hpart
    exact (Host.Outcome.next.inj hpart).symm
  · rw [singleStep_of_may ⟨hdebug, herror, hsecured, hthread, hpending⟩]
    exact ⟨rfl, fun t hexecute => (executeOne_keeps hexecute).1 hdebug⟩
  · rw [singleStep_of_not]
    rintro ⟨hdebug, herror, hsecured, hthread, hpending⟩
    rcases hnot with h | h | h | h | h
    · exact ne_true_of_eq_false h hdebug
    · exact ne_true_of_eq_false herror h
    · exact ne_true_of_eq_false hsecured h
    · exact hthread h
    · exact ne_true_of_eq_false hpending h

/-! ## The host's write to XGCHID (R381) -/

theorem applyEvent_hostWriteByte_xgchid (v : Byte) (s : State) :
    applyEvent (.hostWriteByte 0x02 v) s = .next (writeXgchid (v.setWidth 7) s) := rfl

theorem writeXgchid_outcomes (id : BitVec 7) (s : State) :
    (s.xgdbg = false → writeXgchid id s = s) ∧
    (s.xgdbg = true → id ≠ 0 → s.xgchid ≠ 0 → writeXgchid id s = { s with xgchid := id }) ∧
    (s.xgdbg = true → id ≠ 0 → s.xgchid = 0 → writeXgchid id s = { s with xgchid := id, startPending := true }) ∧
    (s.xgdbg = true → id = 0 → s.xgchid ≠ 0 → writeXgchid id s = { s with xgchid := 0, startPending := false }) ∧
    (s.xgdbg = true → id = 0 → s.xgchid = 0 → writeXgchid id s = s) := by
  refine ⟨fun hdebug => ?_, fun hdebug hid hthread => ?_, fun hdebug hid hidle => ?_, fun hdebug hid hthread => ?_,
    fun hdebug hid hidle => ?_⟩
  · rw [writeXgchid, if_neg (ne_true_of_eq_false hdebug)]
  · rw [writeXgchid, if_pos hdebug, if_pos (bne_iff_ne.mpr hid), if_pos (bne_iff_ne.mpr hthread)]
  · rw [writeXgchid, if_pos hdebug, if_pos (bne_iff_ne.mpr hid), if_neg (by simpa using hidle)]
  · rw [writeXgchid, if_pos hdebug, if_neg (by simpa using hid), if_pos (bne_iff_ne.mpr hthread), terminateThread]
  · rw [writeXgchid, if_pos hdebug, if_neg (by simpa using hid), if_neg (by simpa using hidle)]

/-- Settles O53: the ID is the low seven bits of the byte, and each of the five cases is one of `writeXgchid`. -/
theorem channelIdWritesHaveThreeUses : Obligations.ChannelIdWritesHaveThreeUses := by
  intro v id s hid
  have hlow : v.setWidth 7 = id := BitVec.eq_of_toNat_eq (by rw [BitVec.toNat_setWidth, hid])
  rw [applyEvent_hostWriteByte_xgchid, hlow]
  obtain ⟨hrunning, hchange, hstart, hend, hnone⟩ := writeXgchid_outcomes id s
  exact ⟨fun hdebug => congrArg _ (hrunning hdebug), fun hdebug hid' hthread => congrArg _ (hchange hdebug hid' hthread),
    fun hdebug hid' hidle => congrArg _ (hstart hdebug hid' hidle),
    fun hdebug hid' hthread => congrArg _ (hend hdebug hid' hthread),
    fun hdebug hid' hidle => congrArg _ (hnone hdebug hid' hidle)⟩

end Sys2Proof.Machine
end

section
/-! XGIF at the host's port, and what sets one of its flags (10_state.md, section 2; 47_special.md, section 1). -/

namespace Sys2Proof.Machine

/-! ## Bytes of a word -/

theorem getLsbD_joinBytes (h l : Byte) (i : Nat) :
    (joinBytes h l).getLsbD i = if i < 8 then l.getLsbD i else h.getLsbD (i - 8) := by
  rw [joinBytes, BitVec.getLsbD_append]

/-! ## XGIF (R46, R47) -/

theorem hostWriteByte_xgif {off : BitVec 6} (hlow : 0x08 ≤ off.toNat) (hhigh : off.toNat ≤ 0x17) (v : Byte) (s : State) :
    hostWriteByte off v s = .next (writeXgif (0x17 - off.toNat) v s) := by
  simp only [hostWriteByte]
  rw [if_neg (by omega), if_neg (by omega), if_neg (by omega), if_pos ⟨hlow, hhigh⟩]

theorem hostByte_xgif {off : BitVec 6} (hlow : 0x08 ≤ off.toNat) (hhigh : off.toNat ≤ 0x17) (s : State) :
    hostByte s off = (xgifView s).extractLsb' (8 * (0x17 - off.toNat)) 8 := by
  simp only [hostByte]
  rw [if_neg (by omega), if_neg (by omega), if_neg (by omega), if_pos ⟨hlow, hhigh⟩]

/-- The bit of a flag stands in the byte of XGIF with its number divided by 8. -/
theorem getLsbD_writeXgif (k : Nat) (v : Byte) (s : State) {n : Nat} (hn : n < 128) :
    (writeXgif k v s).xgif.getLsbD n = (s.xgif.getLsbD n && !(n / 8 == k && v.getLsbD (n % 8))) := by
  have hbit : ((v.setWidth 128 : BitVec 128) <<< (8 * k)).getLsbD n = (n / 8 == k && v.getLsbD (n % 8)) := by
    rw [BitVec.getLsbD_shiftLeft, BitVec.getLsbD_setWidth, decide_eq_true hn, Bool.true_and]
    by_cases hk : n / 8 = k
    · have hplace : n - 8 * k = n % 8 := by omega
      have habove : ¬ n < 8 * k := by omega
      have hwidth : n % 8 < 128 := by omega
      simp [hk, hplace, habove, hwidth]
    · have houtside : n < 8 * k ∨ 8 ≤ n - 8 * k := by omega
      rcases houtside with hbelow | habove
      · simp [hk, hbelow]
      · simp [hk, BitVec.getLsbD_of_ge v _ habove]
  rw [writeXgif, BitVec.getLsbD_and, BitVec.getLsbD_not, hbit, decide_eq_true hn, Bool.true_and]

/-- The places of the sixteen bytes and of the eight words of XGIF. -/
theorem toNat_xgifPlace {j : Nat} (hj : j < 16) : (BitVec.ofNat 6 (0x08 + j)).toNat = 0x08 + j := by
  rw [BitVec.toNat_ofNat]
  omega

theorem xgifWord : ∀ j < 8, isWordOffset (BitVec.ofNat 6 (0x08 + 2 * j)).toNat = true ∧
    (BitVec.ofNat 6 (0x08 + 2 * j)).toNat = 0x08 + 2 * j ∧
    (BitVec.ofNat 6 (0x08 + 2 * j) + 1).toNat = 0x08 + 2 * j + 1 := by
  decide

theorem hostWriteWord_of_bytes {off : BitVec 6} (hword : isWordOffset off.toNat = true) (h18 : off.toNat ≠ 0x18)
    (h1A : off.toNat ≠ 0x1A) (v : Word) (s : State) :
    hostWriteWord off v s = thenDo (hostWriteByte off (highByte v) s) (hostWriteByte (off + 1) (lowByte v)) := by
  simp only [hostWriteWord, hword, if_true, if_neg h18, if_neg h1A]

theorem hostWriteWord_xgif {j : Nat} (hj : j < 8) (v : Word) (s : State) :
    hostWriteWord (BitVec.ofNat 6 (0x08 + 2 * j)) v s =
      .next (writeXgif (14 - 2 * j) (lowByte v) (writeXgif (15 - 2 * j) (highByte v) s)) := by
  obtain ⟨hword, hplace, hnext⟩ := xgifWord j hj
  have hhigh : 0x17 - (BitVec.ofNat 6 (0x08 + 2 * j)).toNat = 15 - 2 * j := by omega
  have hlow : 0x17 - (BitVec.ofNat 6 (0x08 + 2 * j) + 1).toNat = 14 - 2 * j := by omega
  rw [hostWriteWord_of_bytes hword (by omega) (by omega), hostWriteByte_xgif (by omega) (by omega), thenDo_of_next,
    hostWriteByte_xgif (by omega) (by omega), hhigh, hlow]

theorem getLsbD_writeXgif_word (j : Nat) (hj : j < 8) (v : Word) (s : State) {n : Nat} (hn : n < 128) :
    (writeXgif (14 - 2 * j) (lowByte v) (writeXgif (15 - 2 * j) (highByte v) s)).xgif.getLsbD n =
      (s.xgif.getLsbD n && !(n / 16 == 7 - j && v.getLsbD (n % 16))) := by
  rw [getLsbD_writeXgif _ _ _ hn, getLsbD_writeXgif _ _ _ hn, getLsbD_lowByte v (Nat.mod_lt n (by decide)),
    getLsbD_highByte v (Nat.mod_lt n (by decide))]
  by_cases hhigh : n / 8 = 15 - 2 * j
  · have hlow : n / 8 ≠ 14 - 2 * j := by omega
    have hword : n / 16 = 7 - j := by omega
    have hbit : 8 + n % 8 = n % 16 := by omega
    rw [beq_iff_eq.mpr hhigh, beq_false_of_ne hlow, beq_iff_eq.mpr hword, hbit, Bool.false_and,
      Bool.not_false, Bool.and_true]
  · by_cases hlow : n / 8 = 14 - 2 * j
    · have hword : n / 16 = 7 - j := by omega
      have hbit : n % 8 = n % 16 := by omega
      rw [beq_false_of_ne hhigh, beq_iff_eq.mpr hlow, beq_iff_eq.mpr hword, hbit, Bool.false_and, Bool.not_false,
        Bool.and_true]
    · have hword : n / 16 ≠ 7 - j := by omega
      rw [beq_false_of_ne hhigh, beq_false_of_ne hlow, beq_false_of_ne hword]
      simp only [Bool.false_and, Bool.not_false, Bool.and_true]

theorem hostReadWord_of_word {off : BitVec 6} (hword : isWordOffset off.toNat = true) (s : State) :
    hostReadWord off s =
      .next { s with hostData := joinBytes (hostByte s off) (hostByte s (off + 1)), draws := s.draws + 1 } := by
  rw [hostReadWord, if_pos hword]

theorem getLsbD_xgifView_iff (s : State) (n : Nat) :
    (xgifView s).getLsbD n = true ↔ s.xgif.getLsbD n = true ∧ implemented s.chip n := by
  rw [xgifView, BitVec.getLsbD_and, Bool.and_eq_true, getLsbD_channels_iff]

/-- A word of XGIF as it reads holds the flags of its sixteen channels. -/
theorem getLsbD_xgifWord {j : Nat} (hj : j < 8) (s : State) {n : Nat} (hword : n / 16 = 7 - j) :
    (joinBytes (hostByte s (BitVec.ofNat 6 (0x08 + 2 * j))) (hostByte s (BitVec.ofNat 6 (0x08 + 2 * j) + 1))).getLsbD
      (n % 16) = (xgifView s).getLsbD n := by
  obtain ⟨-, hplace, hnext⟩ := xgifWord j hj
  rw [hostByte_xgif (by omega) (by omega), hostByte_xgif (by omega) (by omega), hplace, hnext, getLsbD_joinBytes]
  split_ifs with hlow
  · have hbit : 8 * (0x17 - (0x08 + 2 * j + 1)) + n % 16 = n := by omega
    rw [BitVec.getLsbD_extractLsb', decide_eq_true hlow, Bool.true_and, hbit]
  · have hbit : 8 * (0x17 - (0x08 + 2 * j)) + (n % 16 - 8) = n := by omega
    rw [BitVec.getLsbD_extractLsb', decide_eq_true (by omega), Bool.true_and, hbit]

/-- The core sets a flag by itself only with SIF at pc. -/
theorem coreStep_xgif {s t : State} (h : coreStep s = .next t) : t.xgif = s.xgif ∨ s.atSif := by
  rcases coreStep_next h with rfl | ⟨-, -, n, hstart⟩ | ⟨-, rfl⟩ | ⟨-, u, hexecute, rfl⟩
  · exact .inl rfl
  · exact .inl (startThread_keeps hstart).2.2.1
  · exact .inl rfl
  · rw [finishDebug_frame]
    exact executeOne_xgif (t := u) hexecute

/-- A write to XGMCTL sets a flag only by a single step with SIF at pc. -/
theorem writeXgmctl_xgif {v : Byte} {s t : State} (h : writeXgmctl v s = .next t) :
    t.xgif = s.xgif ∨ (v.getLsbD s.chip.xgssBit.index = true ∧ s.atSif) := by
  obtain ⟨u, w, hpart, hstep, rfl⟩ := writeXgmctl_next h
  have hu : u.xgif = s.xgif := (debugPart_keeps hpart).2.1
  have hchip : u.chip = s.chip := chip_of_debugPart (s := s.withControl v) hpart
  rw [xgif_clearedBy]
  rcases stepPart_next hstep with rfl | ⟨hbit, hmay, hexecute⟩
  · exact .inl hu
  · rcases executeOne_xgif hexecute with hsame | hsif
    · exact .inl (hsame.trans hu)
    · rw [State.atSif, ramWord_of_halted hpart hmay.halted] at hsif
      exact .inr ⟨hchip ▸ hbit, hsif⟩

theorem flag_rises_only_by_sif {s t : State} {n : Nat} (h : step s = .next t) (hclear : s.xgif.getLsbD n = false)
    (hset : t.xgif.getLsbD n = true) :
    (s.env = [] ∨ s.env.head? = some .core ∨
      ∃ v : Byte, s.env.head? = some (.hostWriteByte 0x00 v) ∧ v.getLsbD s.chip.xgssBit.index = true) ∧ s.atSif := by
  have hchanged : t.xgif ≠ s.xgif := fun hsame => ne_true_of_eq_false hclear (hsame ▸ hset)
  rcases step_next h with ⟨hevent, hcore⟩ | ⟨v, hevent, hwrite⟩ | ⟨v, -, rfl⟩ | ⟨-, rfl⟩ | hquiet
  · exact ⟨or_assoc.mp (.inl hevent), (coreStep_xgif hcore).resolve_left hchanged⟩
  · obtain ⟨hbit, hsif⟩ := (writeXgmctl_xgif hwrite).resolve_left hchanged
    exact ⟨.inr (.inr ⟨v, hevent, hbit⟩), hsif⟩
  · exact absurd (writeXgchid_keeps _ _).2.2 hchanged
  · exact absurd (show (0 : BitVec 128).getLsbD n = true from hset) (by simp)
  · exact absurd (hquiet.xgif n hset) (ne_true_of_eq_false hclear)

/-- Settles O57: the bytes and words of XGIF flag by flag, and over the five kinds of step only SIF sets one. -/
theorem hostClearsInterruptFlags : Obligations.HostClearsInterruptFlags := by
  refine ⟨fun j v s hj => ?byte, fun j v s hj => ?word, fun j s hj => ?read, fun s t n => flag_rises_only_by_sif⟩
  case byte =>
    have hplace := toNat_xgifPlace hj
    refine ⟨_, hostWriteByte_xgif (by omega) (by omega) v s, rfl, fun n hn => ?_⟩
    have hbyte : 0x17 - (BitVec.ofNat 6 (0x08 + j)).toNat = 15 - j := by omega
    rw [getLsbD_writeXgif _ _ _ hn, hbyte]
  case word => exact ⟨_, hostWriteWord_xgif hj v s, rfl, fun n hn => getLsbD_writeXgif_word j hj v s hn⟩
  case read =>
    obtain ⟨hword, -, -⟩ := xgifWord j hj
    refine ⟨_, hostReadWord_of_word hword s, rfl, fun n _ hn => ?_⟩
    rw [getLsbD_xgifWord hj s hn, getLsbD_xgifView_iff]

end Sys2Proof.Machine
end

section
/-! XGVBR, XGSWT and the core's registers at the host's port, the outgoing interrupts and the pending requests
(10_state.md, section 2; 60_exceptions.md, sections 2 and 4). -/

namespace Sys2Proof.Machine

/-! ## XGVBR (R43, R44) -/

/-- The table of R44 as one power of two: the largest one below RAM_SIZE gives the highest writable bit. -/
theorem vbrWritable_eq {c : Chip} (h : c.wellFormed = true) : ∃ k, k ≤ 18 ∧ 2 ^ k < c.ramSize ∧ c.ramSize ≤ 2 ^ (k + 1) ∧
    vbrWritable c = BitVec.ofNat 32 (2 ^ (k + 1) - 2) := by
  simp only [Chip.wellFormed, Bool.and_eq_true, decide_eq_true_eq] at h
  obtain ⟨⟨⟨⟨⟨⟨⟨⟨-, hmin⟩, hmax⟩, -⟩, -⟩, -⟩, -⟩, -⟩, -⟩ := h
  rw [vbrWritable]
  split_ifs
  · exact ⟨18, by decide, by omega, by omega, rfl⟩
  · exact ⟨17, by decide, by omega, by omega, rfl⟩
  · exact ⟨16, by decide, by omega, by omega, rfl⟩
  · exact ⟨15, by decide, by omega, by omega, rfl⟩
  · exact ⟨14, by decide, by omega, by omega, rfl⟩
  · exact ⟨13, by decide, by omega, by omega, rfl⟩
  · exact ⟨12, by decide, by omega, by omega, rfl⟩
  · exact ⟨11, by decide, by omega, by omega, rfl⟩

theorem two_pow_lt_iff {k r : Nat} (hbelow : 2 ^ k < r) (habove : r ≤ 2 ^ (k + 1)) (b : Nat) : 2 ^ b < r ↔ b ≤ k := by
  constructor
  · intro hlt
    exact Nat.lt_succ_iff.mp ((Nat.pow_lt_pow_iff_right (by decide)).mp (hlt.trans_le habove))
  · intro hle
    exact (Nat.pow_le_pow_right (by decide) hle).trans_lt hbelow

theorem getLsbD_vbrWritable {c : Chip} (h : c.wellFormed = true) {b : Nat} (hb : b < 32) :
    (vbrWritable c).getLsbD b = decide (1 ≤ b ∧ 2 ^ b < c.ramSize) := by
  obtain ⟨k, -, hbelow, habove, hmask⟩ := vbrWritable_eq h
  have hwritable : decide (1 ≤ b ∧ 2 ^ b < c.ramSize) = decide (1 ≤ b ∧ b ≤ k) :=
    decide_eq_decide.mpr (and_congr_right fun _ => two_pow_lt_iff hbelow habove b)
  have hdouble : 2 ^ (k + 1) - 2 = 2 * (2 ^ k - 1) := by rw [Nat.mul_sub, ← Nat.pow_succ']
  rw [hmask, BitVec.getLsbD_ofNat, decide_eq_true hb, Bool.true_and, hdouble, hwritable]
  cases b with
  | zero => simp
  | succ i =>
    rw [Nat.testBit_succ, Nat.mul_div_cancel_left _ (by decide), Nat.testBit_two_pow_sub_one, decide_eq_decide]
    omega

theorem writeXgvbr_of_refused (k : Nat) (v : Byte) {s : State} (h : s.xge = true ∨ s.xgchid ≠ 0) :
    writeXgvbr k v s = s := by
  rw [writeXgvbr, if_neg]
  simp only [Bool.and_eq_true, Bool.not_eq_true', beq_iff_eq]
  rintro ⟨hdisabled, hidle⟩
  rcases h with henabled | hthread
  · exact ne_true_of_eq_false hdisabled henabled
  · exact hthread hidle

theorem writeXgvbr_of_permitted (k : Nat) (v : Byte) {s : State} (henabled : s.xge = false) (hidle : s.xgchid = 0) :
    writeXgvbr k v s = { s with xgvbr := (writeXgvbr k v s).xgvbr } := by
  rw [writeXgvbr, if_pos (by simp [henabled, hidle])]

/-- A permitted write of byte `k` replaces its writable bits. -/
theorem getLsbD_writeXgvbr {k : Nat} (v : Byte) {s : State} (hchip : s.chip.wellFormed = true) (henabled : s.xge = false)
    (hidle : s.xgchid = 0) {b : Nat} (hb : b < 32) :
    (writeXgvbr k v s).xgvbr.getLsbD b =
      if 8 * k ≤ b ∧ b < 8 * k + 8 ∧ 1 ≤ b ∧ 2 ^ b < s.chip.ramSize then v.getLsbD (b - 8 * k) else s.xgvbr.getLsbD b := by
  have hpart : (0xFF#32 <<< (8 * k)).getLsbD b = decide (8 * k ≤ b ∧ b < 8 * k + 8) := by
    have hones : ∀ i < 32, (0xFF#32).getLsbD i = decide (i < 8) := by decide
    rw [BitVec.getLsbD_shiftLeft, hones _ (by omega), decide_eq_true hb, Bool.true_and, ← decide_not, ← Bool.decide_and,
      decide_eq_decide]
    omega
  have hnew (hlow : 8 * k ≤ b) (hhigh : b < 8 * k + 8) :
      ((v.setWidth 32 : BitVec 32) <<< (8 * k)).getLsbD b = v.getLsbD (b - 8 * k) := by
    rw [BitVec.getLsbD_shiftLeft, BitVec.getLsbD_setWidth, decide_eq_true hb, decide_eq_true (by omega : b - 8 * k < 32),
      decide_eq_false (by omega : ¬ b < 8 * k)]
    rfl
  rw [writeXgvbr, if_pos (by simp [henabled, hidle])]
  simp only [BitVec.getLsbD_or, BitVec.getLsbD_and, BitVec.getLsbD_not, hpart, getLsbD_vbrWritable hchip hb,
    decide_eq_true hb, Bool.true_and]
  by_cases hbyte : 8 * k ≤ b ∧ b < 8 * k + 8
  · rw [hnew hbyte.1 hbyte.2]
    by_cases hwritable : 1 ≤ b ∧ 2 ^ b < s.chip.ramSize
    · simp [hbyte, hwritable]
    · rw [if_neg fun h => hwritable h.2.2, decide_eq_false hwritable]
      simp
  · rw [if_neg fun h => hbyte ⟨h.1, h.2.1⟩, decide_eq_false hbyte]
    simp

theorem hostWriteWord_xgvbrLow (v : Word) (s : State) :
    applyEvent (.hostWriteWord 0x06 v) s = .next (writeXgvbr 0 (lowByte v) (writeXgvbr 1 (highByte v) s)) := rfl

theorem hostWriteWord_xgvbrHigh (v : Word) (s : State) :
    applyEvent (.hostWriteWord 0x04 v) s = .next (writeXgvbr 2 (lowByte v) (writeXgvbr 3 (highByte v) s)) := rfl

/-- The two bytes of a permitted word write to XGVBR, the upper one first. -/
theorem getLsbD_writeXgvbr_word {k : Nat} (v : Word) {s : State} (hchip : s.chip.wellFormed = true)
    (henabled : s.xge = false) (hidle : s.xgchid = 0) {b : Nat} (hb : b < 32) :
    (writeXgvbr k (lowByte v) (writeXgvbr (k + 1) (highByte v) s)).xgvbr.getLsbD b =
      if 8 * k ≤ b ∧ b < 8 * k + 16 ∧ 1 ≤ b ∧ 2 ^ b < s.chip.ramSize then v.getLsbD (b - 8 * k)
      else s.xgvbr.getLsbD b := by
  have hframe := writeXgvbr_of_permitted (k + 1) (highByte v) henabled hidle
  have hfirst := getLsbD_writeXgvbr (k := k + 1) (highByte v) hchip henabled hidle hb
  have hsecond := getLsbD_writeXgvbr (k := k) (lowByte v) (s := writeXgvbr (k + 1) (highByte v) s)
    (by rw [hframe]; exact hchip) (by rw [hframe]; exact henabled) (by rw [hframe]; exact hidle) hb
  have hsize : (writeXgvbr (k + 1) (highByte v) s).chip.ramSize = s.chip.ramSize := by rw [hframe]
  rw [hsecond, hfirst, hsize]
  by_cases hwritable : 1 ≤ b ∧ 2 ^ b < s.chip.ramSize
  · simp only [hwritable, and_true]
    by_cases hlow : 8 * k ≤ b ∧ b < 8 * k + 8
    · rw [if_pos hlow, if_pos (by omega), getLsbD_lowByte v (by omega)]
    · rw [if_neg hlow]
      by_cases hhigh : 8 * (k + 1) ≤ b ∧ b < 8 * (k + 1) + 8
      · have hbit : 8 + (b - 8 * (k + 1)) = b - 8 * k := by omega
        rw [if_pos hhigh, if_pos (by omega), getLsbD_highByte v (by omega), hbit]
      · rw [if_neg hhigh, if_neg (by omega)]
  · rw [if_neg fun h => hwritable h.2.2, if_neg fun h => hwritable h.2.2, if_neg fun h => hwritable h.2.2]

theorem writeXgvbr_word_frame (k l : Nat) (v w : Byte) {s : State} (henabled : s.xge = false) (hidle : s.xgchid = 0) :
    { writeXgvbr k v (writeXgvbr l w s) with xgvbr := s.xgvbr } = s := by
  have hfirst := writeXgvbr_of_permitted l w henabled hidle
  rw [writeXgvbr_of_permitted k v (s := writeXgvbr l w s) (by rw [hfirst]; exact henabled) (by rw [hfirst]; exact hidle),
    hfirst]

/-- Settles O56: the two places differ in the bytes they write; a refused write is none. -/
theorem vectorBaseIsWrittenWhenDisabledAndIdle : Obligations.VectorBaseIsWrittenWhenDisabledAndIdle := by
  intro v s hchip
  rw [hostWriteWord_xgvbrLow, hostWriteWord_xgvbrHigh]
  refine ⟨fun hrefused => ?_, fun henabled hidle => ⟨⟨_, rfl, writeXgvbr_word_frame _ _ _ _ henabled hidle, fun b hb => ?_⟩,
    ⟨_, rfl, writeXgvbr_word_frame _ _ _ _ henabled hidle, fun b hb => ?_⟩⟩⟩
  · rw [writeXgvbr_of_refused 1 _ hrefused, writeXgvbr_of_refused 0 _ hrefused, writeXgvbr_of_refused 3 _ hrefused,
      writeXgvbr_of_refused 2 _ hrefused]
    exact ⟨rfl, rfl⟩
  · rw [getLsbD_writeXgvbr_word v hchip henabled hidle hb]
    refine if_congr ?_ rfl rfl
    omega
  · rw [getLsbD_writeXgvbr_word v hchip henabled hidle hb]
    obtain ⟨k, hlimit, hbelow, habove, -⟩ := vbrWritable_eq hchip
    have hsize := two_pow_lt_iff hbelow habove b
    refine if_congr ?_ rfl rfl
    omega

/-! ## XGSWT (R49, R50) -/

/-- Settles O58: a word acts bit by bit under its mask, a byte has no place of its own in the write. -/
theorem hostSetsAndClearsTriggersUnderTheMask : Obligations.HostSetsAndClearsTriggersUnderTheMask := by
  intro s
  refine ⟨fun v => ⟨{ s with xgswt := triggerWrite v s.xgswt }, rfl, rfl, fun k hk => getLsbD_triggerWrite v s.xgswt hk⟩,
    fun v => ⟨rfl, rfl⟩, ⟨_, rfl, ?_, rfl⟩⟩
  change (joinBytes 0 s.xgswt).toNat = s.xgswt.toNat
  rw [joinBytes_zero, BitVec.toNat_setWidth_of_le (by decide)]

/-! ## XGCCR, XGPC and XGR1 to XGR7 (R55 to R58) -/

theorem hostWriteByte_core {off : BitVec 6} (h : isCoreByte off.toNat = true) (v : Byte) (s : State) :
    hostWriteByte off v s = .next (writeCoreByte off.toNat v s) := by
  have hplace : 0x1D ≤ off.toNat := by
    simp only [isCoreByte, Bool.and_eq_true, decide_eq_true_eq] at h
    exact h.1.1.1
  simp only [hostWriteByte]
  rw [if_neg (by omega), if_neg (by omega), if_neg (by omega), if_neg (by omega), if_pos h]

theorem hostByte_core {off : BitVec 6} (h : isCoreByte off.toNat = true) (s : State) :
    hostByte s off = if s.chip.secured then 0 else if s.xgdbg then coreByte s off.toNat
      else Config.hostReadOpen s.draws off := by
  have hplace : 0x1D ≤ off.toNat := by
    simp only [isCoreByte, Bool.and_eq_true, decide_eq_true_eq] at h
    exact h.1.1.1
  simp only [hostByte]
  rw [if_neg (by omega), if_neg (by omega), if_neg (by omega), if_neg (by omega), if_neg (by omega), if_neg (by omega),
    if_pos h]

theorem writeCoreByte_of_refused {s : State} (h : s.xgdbg = false ∨ s.chip.secured = true) (n : Nat) (v : Byte) :
    writeCoreByte n v s = s := by
  rw [writeCoreByte, if_neg]
  simp only [Bool.and_eq_true, Bool.not_eq_true']
  rintro ⟨hdebug, hunsecured⟩
  rcases h with hrunning | hsecured
  · exact ne_true_of_eq_false hrunning hdebug
  · exact ne_true_of_eq_false hunsecured hsecured

/-- The even offset of a 16-bit register of the core: XGPC or one of XGR1 to XGR7. -/
structure CoreWord (off : BitVec 6) : Prop where
  word : isWordOffset off.toNat = true
  notTriggers : off.toNat ≠ 0x18
  notSemaphores : off.toNat ≠ 0x1A
  high : isCoreByte off.toNat = true
  low : isCoreByte (off + 1).toNat = true

theorem CoreWord.write {off : BitVec 6} (h : CoreWord off) (v : Word) (s : State) : hostWriteWord off v s =
    .next (writeCoreByte (off + 1).toNat (lowByte v) (writeCoreByte off.toNat (highByte v) s)) := by
  rw [hostWriteWord_of_bytes h.word h.notTriggers h.notSemaphores, hostWriteByte_core h.high, thenDo_of_next,
    hostWriteByte_core h.low]

theorem CoreWord.write_refused {off : BitVec 6} (h : CoreWord off) {s : State}
    (hrefused : s.xgdbg = false ∨ s.chip.secured = true) (v : Word) : hostWriteWord off v s = .next s := by
  rw [h.write, writeCoreByte_of_refused hrefused, writeCoreByte_of_refused hrefused]

theorem CoreWord.read {off : BitVec 6} (h : CoreWord off) {s : State} (hdebug : s.xgdbg = true)
    (hunsecured : s.chip.secured = false) : hostReadWord off s =
    .next { s with hostData := joinBytes (coreByte s off.toNat) (coreByte s (off + 1).toNat), draws := s.draws + 1 } := by
  rw [hostReadWord_of_word h.word, hostByte_core h.high, hostByte_core h.low, hunsecured, hdebug]
  rfl

theorem CoreWord.read_secured {off : BitVec 6} (h : CoreWord off) (s : State) :
    ∃ t, hostReadWord off s = .next t ∧ (s.chip.secured = true → t.hostData = 0) := by
  refine ⟨_, hostReadWord_of_word h.word s, fun hsecured => ?_⟩
  change joinBytes _ _ = 0
  rw [hostByte_core h.high, hostByte_core h.low, if_pos hsecured, if_pos hsecured]
  rfl

theorem coreWord_xgpc : CoreWord 0x1E := by constructor <;> decide

/-- The places of XGR1 to XGR7. -/
theorem registerPlace : ∀ n : BitVec 3, n ≠ 0 →
    (BitVec.ofNat 6 (0x20 + 2 * n.toNat)).toNat = 0x20 + 2 * n.toNat ∧
    (BitVec.ofNat 6 (0x20 + 2 * n.toNat) + 1).toNat = 0x21 + 2 * n.toNat := by decide

theorem coreWord_register {n : BitVec 3} (hn : n ≠ 0) : CoreWord (BitVec.ofNat 6 (0x20 + 2 * n.toNat)) := by
  have hall : ∀ n : BitVec 3, n ≠ 0 → isWordOffset (0x20 + 2 * n.toNat) = true ∧ isCoreByte (0x20 + 2 * n.toNat) = true ∧
    isCoreByte (0x21 + 2 * n.toNat) = true := by decide
  obtain ⟨hplace, hnext⟩ := registerPlace n hn
  obtain ⟨hword, hhigh, hlow⟩ := hall n hn
  exact ⟨by rw [hplace]; exact hword, by omega, by omega, by rw [hplace]; exact hhigh, by rw [hnext]; exact hlow⟩

theorem registerAt_place : ∀ n : BitVec 3,
    registerAt (0x20 + 2 * n.toNat) = Reg.ofBits n ∧ registerAt (0x21 + 2 * n.toNat) = Reg.ofBits n := by decide

theorem setReg_setReg (s : State) (r : Reg) (v w : Word) : (s.setReg r v).setReg r w = s.setReg r w := by
  cases r <;> rfl

theorem ofBits_ne_r0 : ∀ n : BitVec 3, n ≠ 0 → Reg.ofBits n ≠ .r0 := by decide

/-- Both bytes replaced, the upper one first, are the whole word. -/
theorem replaceByte_both {n m : Nat} (hn : n % 2 = 0) (hm : m % 2 ≠ 0) (w v : Word) :
    replaceByte (replaceByte w n (highByte v)) m (lowByte v) = v := by
  rw [replaceByte, if_neg hm, replaceByte, if_pos hn, highByte_joinBytes, joinBytes_highByte_lowByte]

section HaltedAndUnsecured

variable {s : State} (hdebug : s.xgdbg = true) (hunsecured : s.chip.secured = false)
include hdebug hunsecured

theorem writeCoreByte_xgccr (v : Byte) : writeCoreByte 0x1D v s = s.setCcr (CCR.ofBits (v.extractLsb' 0 4)) := by
  rw [writeCoreByte, if_pos (by simp [hdebug, hunsecured]), if_pos rfl]

theorem writeCoreByte_xgpc {n : Nat} (hn : 0x1E ≤ n ∧ n < 0x20) (v : Byte) :
    writeCoreByte n v s = s.setPc (replaceByte s.pc n v) := by
  have hplace : n ≠ 0x1D := by omega
  rw [writeCoreByte, if_pos (by simp [hdebug, hunsecured]), if_neg hplace, if_pos hn.2]

theorem writeCoreByte_register {n : Nat} (hn : 0x20 ≤ n) (v : Byte) :
    writeCoreByte n v s = s.setReg (registerAt n) (replaceByte (s.reg (registerAt n)) n v) := by
  have hplace : n ≠ 0x1D := by omega
  rw [writeCoreByte, if_pos (by simp [hdebug, hunsecured]), if_neg hplace, if_neg (by omega)]

theorem hostWriteWord_xgpc (v : Word) : hostWriteWord 0x1E v s = .next { s with pc := v } := by
  rw [coreWord_xgpc.write]
  change Host.Outcome.next (writeCoreByte 0x1F _ (writeCoreByte 0x1E _ s)) = _
  rw [writeCoreByte_xgpc hdebug hunsecured (by decide),
    writeCoreByte_xgpc (s := s.setPc (replaceByte s.pc 0x1E (highByte v))) hdebug hunsecured (by decide),
    setPc_pc, replaceByte_both (by decide) (by decide)]
  rfl

theorem hostWriteWord_register {n : BitVec 3} (hn : n ≠ 0) (v : Word) :
    hostWriteWord (BitVec.ofNat 6 (0x20 + 2 * n.toNat)) v s = .next (s.setReg (Reg.ofBits n) v) := by
  obtain ⟨hplace, hnext⟩ := registerPlace n hn
  obtain ⟨hhigh, hlow⟩ := registerAt_place n
  rw [(coreWord_register hn).write, hplace, hnext, writeCoreByte_register hdebug hunsecured (by omega), hhigh,
    writeCoreByte_register (s := s.setReg _ _) hdebug hunsecured (by omega), hlow, setReg_setReg,
    reg_setReg_same _ _ _ (ofBits_ne_r0 n hn), replaceByte_both (by omega) (by omega)]

theorem hostReadWord_xgpc : ∃ t, hostReadWord 0x1E s = .next t ∧ t.hostData = s.pc :=
  ⟨_, coreWord_xgpc.read hdebug hunsecured, joinBytes_highByte_lowByte s.pc⟩

theorem hostReadWord_register {n : BitVec 3} (hn : n ≠ 0) :
    ∃ t, hostReadWord (BitVec.ofNat 6 (0x20 + 2 * n.toNat)) s = .next t ∧ t.hostData = s.reg (Reg.ofBits n) := by
  obtain ⟨hplace, hnext⟩ := registerPlace n hn
  obtain ⟨hhigh, hlow⟩ := registerAt_place n
  refine ⟨_, (coreWord_register hn).read hdebug hunsecured, ?_⟩
  have hfirst : coreByte s (0x20 + 2 * n.toNat) = highByte (s.reg (Reg.ofBits n)) := by
    simp only [coreByte]
    rw [if_neg (by omega), if_pos (by omega), if_neg (by omega), hhigh]
  have hsecond : coreByte s (0x21 + 2 * n.toNat) = lowByte (s.reg (Reg.ofBits n)) := by
    simp only [coreByte]
    rw [if_neg (by omega), if_neg (by omega), if_neg (by omega), hlow]
  rw [hplace, hnext, hfirst, hsecond, joinBytes_highByte_lowByte]

end HaltedAndUnsecured

theorem hostReadByte_of_place {off : BitVec 6} (h : off.toNat ≤ 0x39) (s : State) : applyEvent (.hostReadByte off) s =
    .next { s with hostData := (hostByte s off).setWidth 16, draws := s.draws + 1 } :=
  if_pos h

/-- Settles O59: the two kinds of 16-bit registers and XGCCR, permitted, refused, and read on a secured device. -/
theorem coreRegistersThroughTheHostPort : Obligations.CoreRegistersThroughTheHostPort := by
  intro s n v b hn
  refine ⟨fun hdebug hunsecured => ⟨hostWriteWord_register hdebug hunsecured hn v, hostWriteWord_xgpc hdebug hunsecured v,
      ⟨s.setCcr (CCR.ofBits (b.extractLsb' 0 4)), ?flags, ?number, rfl⟩, hostReadWord_register hdebug hunsecured hn,
      hostReadWord_xgpc hdebug hunsecured, ⟨_, hostReadByte_of_place (by decide) s, ?flagsRead⟩⟩,
    fun hrefused => ⟨(coreWord_register hn).write_refused hrefused v, coreWord_xgpc.write_refused hrefused v,
      ?flagsRefused⟩,
    (coreWord_register hn).read_secured s, coreWord_xgpc.read_secured s,
    ⟨_, hostReadByte_of_place (by decide) s, fun hsecured => ?flagsSecured⟩⟩
  case flags =>
    exact (hostWriteByte_core (off := 0x1D) (by decide) b s).trans (congrArg _ (writeCoreByte_xgccr hdebug hunsecured b))
  case number =>
    rw [setCcr_ccr, ccrNumber_ofBits, BitVec.extractLsb'_toNat, Nat.shiftRight_zero]
  case flagsRead =>
    rw [hostByte_xgccr hdebug hunsecured, BitVec.toNat_setWidth_of_le (by decide), BitVec.toNat_setWidth_of_le (by decide),
      toNat_bits]
  case flagsRefused =>
    exact (hostWriteByte_core (off := 0x1D) (by decide) b s).trans (congrArg _ (writeCoreByte_of_refused hrefused _ b))
  case flagsSecured =>
    rw [hostByte_core (off := 0x1D) (by decide), if_pos hsecured]
    rfl

/-! ## The outgoing interrupts (R362 to R364) -/

theorem triggerLine_iff (s : State) (k : Nat) : triggerLine s k = true ↔
    s.xgswt.getLsbD k = true ∧ (s.xgie = true ∨ s.chip.swtGatedByXgie = false) := by
  rw [triggerLine, Bool.and_eq_true, Bool.or_eq_true, Bool.not_eq_true']

theorem toNat_xgmctlView (s : State) : (xgmctlView s).toNat =
    128 * s.xge.toNat + 64 * s.xgfrz.toNat + 16 * s.xgdbg.toNat + 2 * s.xgsweif.toNat + s.xgie.toNat := by
  have hbits : ∀ e f d i m : Bool,
      (BitVec.ofBool e ++ BitVec.ofBool f ++ 0#1 ++ BitVec.ofBool d ++ 0#2 ++ BitVec.ofBool i ++ BitVec.ofBool m).toNat =
        128 * e.toNat + 64 * f.toNat + 16 * d.toNat + 2 * i.toNat + m.toNat := by decide
  exact hbits _ _ _ _ _

theorem getLsbD_channelIrq_iff (s : State) (n : Nat) : (channelIrq s).getLsbD n = true ↔
    s.xgie = true ∧ s.xgif.getLsbD n = true ∧ implemented s.chip n := by
  rw [channelIrq, ← getLsbD_xgifView_iff]
  cases s.xgie <;> simp

/-- Settles O60: each output is its definition, read bit by bit. -/
theorem xgieMasksTheThreeInterrupts : Obligations.XgieMasksTheThreeInterrupts := by
  intro s
  refine ⟨getLsbD_channelIrq_iff s, ?error, fun k => ⟨triggerLine_iff s k, ?trigger⟩,
    _, hostReadByte_of_place (by decide) s, ?view⟩
  case error => rw [softwareErrorIrq, Bool.and_eq_true, and_comm]
  case trigger => rw [triggerIrq, Bool.and_eq_true, Bool.not_eq_true']
  case view =>
    rw [← toNat_xgmctlView]
    exact BitVec.toNat_setWidth_of_le (by decide)

/-! ## The pending requests (R341 to R343) -/

/-- A bit of a vector gathered over a list is one that was there, or one that some element brings. -/
theorem getLsbD_foldl_iff {α : Type} {f : BitVec 128 → α → BitVec 128} {brings : α → Prop} {j : Nat}
    (hf : ∀ m a, (f m a).getLsbD j = true ↔ m.getLsbD j = true ∨ brings a) (l : List α) (m : BitVec 128) :
    (l.foldl f m).getLsbD j = true ↔ m.getLsbD j = true ∨ ∃ a ∈ l, brings a := by
  induction l generalizing m with
  | nil => simp
  | cons a l ih => rw [List.foldl_cons, ih, hf, List.exists_mem_cons_iff, or_assoc]

theorem getLsbD_or_bit128_iff (m : BitVec 128) (ch n : BitVec 7) :
    (m ||| bit128 ch).getLsbD n.toNat = true ↔ m.getLsbD n.toNat = true ∨ ch = n := by
  rw [BitVec.getLsbD_or, Bool.or_eq_true, getLsbD_bit128, decide_eq_true_iff, ← BitVec.toNat_inj, eq_comm (a := n.toNat)]

theorem getLsbD_softwareChannels_iff (c : Chip) (n : BitVec 7) :
    (softwareChannels c).getLsbD n.toNat = true ↔ n ∈ c.swtCh := by
  rw [softwareChannels, getLsbD_foldl_iff fun m ch => getLsbD_or_bit128_iff m ch n]
  simp

/-- Trigger `k` is set, routed to the XGATE, not gated off, and on channel `n`. -/
def State.requestedBy (s : State) (n : BitVec 7) (k : Nat) : Prop :=
  s.chip.swtCh[k]? = some n ∧ s.xgswt.getLsbD k = true ∧ s.triggerRoute.getLsbD k = true ∧
    (s.xgie = true ∨ s.chip.swtGatedByXgie = false)

theorem getLsbD_triggerRequests_iff (s : State) (n : BitVec 7) :
    (triggerRequests s).getLsbD n.toNat = true ↔ ∃ k, k < 8 ∧ s.requestedBy n k := by
  rw [triggerRequests, getLsbD_foldl_iff (brings := s.requestedBy n)]
  · simp
  intro m k
  have hline : (triggerLine s k && s.triggerRoute.getLsbD k) = true ↔
      s.xgswt.getLsbD k = true ∧ s.triggerRoute.getLsbD k = true ∧ (s.xgie = true ∨ s.chip.swtGatedByXgie = false) := by
    rw [Bool.and_eq_true, triggerLine_iff, and_assoc, and_comm (b := s.triggerRoute.getLsbD k = true)]
  rw [State.requestedBy, ← hline]
  cases hch : s.chip.swtCh[k]? with
  | none => simp
  | some ch =>
    by_cases hasserted : (triggerLine s k && s.triggerRoute.getLsbD k) = true
    · simp only [hasserted, if_true, getLsbD_or_bit128_iff, Option.some.injEq, and_true]
    · simp [hasserted]

/-- Settles O46: the three parts of the set, each bit by bit. -/
theorem pendingRequestsAreTheRoutedLines : Obligations.PendingRequestsAreTheRoutedLines := by
  intro s n
  have hn : n.toNat < 128 := n.isLt
  have hnot_software : (!(softwareChannels s.chip).getLsbD n.toNat) = true ↔ n ∉ s.chip.swtCh := by
    rw [← getLsbD_softwareChannels_iff, Bool.not_eq_true', Bool.not_eq_true]
  rw [pendingRequests, BitVec.getLsbD_and, Bool.and_eq_true, getLsbD_channels_iff, and_comm, BitVec.getLsbD_or,
    Bool.or_eq_true, getLsbD_triggerRequests_iff, BitVec.getLsbD_and, BitVec.getLsbD_not, decide_eq_true hn, Bool.true_and,
    Bool.and_eq_true, hnot_software]
  rfl

end Sys2Proof.Machine
end

section
/-! Sums, differences and shifts over two words, from the low part to the high part through the flags: the constants of
ADDL to SUBH, CMPL and CPCH, ADD and ADC, SUB and SBC, LSL and CSL, LSR and CSR (41_arith.md, 45_shift.md). -/

namespace Sys2Proof.Machine

/-! ## ADDL, ADDH, SUBL, SUBH (R203 to R206) -/

theorem joinBytes_zero_eq_ofNat (k : Byte) : joinBytes 0 k = BitVec.ofNat 16 k.toNat := by
  rw [joinBytes_zero, BitVec.ofNat_toNat]

theorem joinBytes_eq_ofNat_mul (k : Byte) : joinBytes k 0 = BitVec.ofNat 16 (256 * k.toNat) := by
  apply BitVec.eq_of_toNat_eq
  have hk := k.isLt
  rw [toNat_joinBytes, BitVec.toNat_ofNat, Nat.mod_eq_of_lt (by omega)]
  rfl

/-- An instruction that ends in `addImmediate` is a full 16-bit addition. -/
theorem sum_of_addImmediate {instr : Instr} {rd : Reg} {b : Word} {s : State}
    (hexec : exec instr s = .next (addImmediate rd b s)) :
    ∃ t r f, exec instr s = .next t ∧ s.computed t rd r f ∧ SumOf (s.reg rd) b false r f ∧ (f.z = true ↔ r = 0) :=
  ⟨_, _, _, hexec, computed_writeResult s rd _ _, sumOf_addFlags_false (by decide) _ _, addFlags_z _ _ _⟩

theorem difference_of_subImmediate {instr : Instr} {rd : Reg} {b : Word} {s : State}
    (hexec : exec instr s = .next (subImmediate rd b s)) :
    ∃ t r f, exec instr s = .next t ∧ s.computed t rd r f ∧ DifferenceOf (s.reg rd) b false r f ∧ (f.z = true ↔ r = 0) :=
  ⟨_, _, _, hexec, computed_writeResult s rd _ _, differenceOf_subFlags_false (by decide) _ _, subFlags_z _ _ _⟩

theorem exec_addl (rd : Reg) (k : Byte) (s : State) :
    exec (.addl rd k) s = .next (addImmediate rd (joinBytes 0 k) s) := rfl

theorem exec_addh (rd : Reg) (k : Byte) (s : State) :
    exec (.addh rd k) s = .next (addImmediate rd (joinBytes k 0) s) := rfl

theorem exec_subl (rd : Reg) (k : Byte) (s : State) :
    exec (.subl rd k) s = .next (subImmediate rd (joinBytes 0 k) s) := rfl

theorem exec_subh (rd : Reg) (k : Byte) (s : State) :
    exec (.subh rd k) s = .next (subImmediate rd (joinBytes k 0) s) := rfl

/-- Settles O12: all four are a 16-bit addition or subtraction of the constant in its byte. -/
theorem immediateAddAndSubtract : Obligations.ImmediateAddAndSubtract := by
  intro rd k s
  rw [← joinBytes_zero_eq_ofNat, ← joinBytes_eq_ofNat_mul]
  exact ⟨sum_of_addImmediate (exec_addl rd k s), sum_of_addImmediate (exec_addh rd k s),
    difference_of_subImmediate (exec_subl rd k s), difference_of_subImmediate (exec_subh rd k s)⟩

/-! ## Two parts of a number -/

theorem toNat_append_eq {n m : Nat} (x : BitVec n) (y : BitVec m) : (x ++ y).toNat = 2 ^ m * x.toNat + y.toNat := by
  rw [BitVec.toNat_append, ← Nat.shiftLeft_add_eq_or_of_lt y.isLt, Nat.shiftLeft_eq, Nat.mul_comm]

theorem toInt_append_eq {n m : Nat} (hn : 0 < n) (x : BitVec n) (y : BitVec m) :
    (x ++ y).toInt = 2 ^ m * x.toInt + y.toNat := by
  rw [BitVec.toInt_append, if_neg (by simpa using hn.ne')]

theorem append_eq_zero_iff {n m : Nat} (x : BitVec n) (y : BitVec m) : x ++ y = 0 ↔ x = 0 ∧ y = 0 := by
  rw [BitVec.toNat_eq, toNat_append_eq, BitVec.toNat_eq, BitVec.toNat_eq (x := y)]
  simp

/-- A number against a multiple of `p`, by its part above `p`. -/
theorem scaled_lt_iff {p x y r : Int} (hr : 0 ≤ r) (hrp : r < p) : p * x + r < p * y ↔ x < y := by
  constructor
  · intro h
    by_contra hle
    have hmul : p * y ≤ p * x := Int.mul_le_mul_of_nonneg_left (by omega) (by omega)
    omega
  · intro h
    have hmul : p * (x + 1) ≤ p * y := Int.mul_le_mul_of_nonneg_left (by omega) (by omega)
    rw [Int.mul_add] at hmul
    omega

theorem le_scaled_iff {p x y r : Int} (hr : 0 ≤ r) (hrp : r < p) : p * y ≤ p * x + r ↔ y ≤ x := by
  rw [← Int.not_lt, scaled_lt_iff hr hrp, Int.not_lt]

theorem scaled_emod {p q x r : Int} (hr : 0 ≤ r) (hrp : r < p) (hq : 0 < q) : (p * x + r) % (q * p) = p * (x % q) + r := by
  have hsplit : p * x + r = p * (x % q) + r + q * p * (x / q) := by
    conv_lhs => rw [← Int.emod_add_mul_ediv x q]
    ring
  have hlow : 0 ≤ p * (x % q) := Int.mul_nonneg (by omega) (Int.emod_nonneg x hq.ne')
  have hhigh : p * (x % q) + r < p * q := (scaled_lt_iff hr hrp).mpr (Int.emod_lt_of_pos x hq)
  rw [hsplit, Int.add_mul_emod_self_left, Int.emod_eq_of_lt (by omega) (by rw [Int.mul_comm q p]; exact hhigh)]

/-! ## The exact sum and difference -/

/-- The exact sum is the result and the carry above it. -/
theorem SumOf.exact {w : Nat} {a b r : BitVec w} {c : Bool} {f : CCR} (h : SumOf a b c r f) :
    (a.toNat : Int) + b.toNat + c.toNat = 2 ^ w * f.c.toNat + r.toNat := by
  have hvalue := h.value
  have ha := a.isLt
  have hb := b.isLt
  have hc := c.toNat_le
  have hexact : a.toNat + b.toNat + c.toNat = 2 ^ w * f.c.toNat + r.toNat := by
    cases hcarry : f.c with
    | true =>
      have hwraps := h.carry.mp hcarry
      rw [Nat.mod_eq_sub_mod hwraps, Nat.mod_eq_of_lt (by omega)] at hvalue
      simp only [Bool.toNat_true]
      omega
    | false =>
      have hfits := mt h.carry.mpr (ne_true_of_eq_false hcarry)
      rw [Nat.mod_eq_of_lt (by omega)] at hvalue
      simp only [Bool.toNat_false]
      omega
  exact_mod_cast hexact

/-- The exact difference is the result less the borrow above it. -/
theorem DifferenceOf.exact {w : Nat} {a b r : BitVec w} {c : Bool} {f : CCR} (h : DifferenceOf a b c r f) :
    (a.toNat : Int) - b.toNat - c.toNat = 2 ^ w * -f.c.toNat + r.toNat := by
  have hvalue := h.value
  have ha : (a.toNat : Int) < 2 ^ w := by exact_mod_cast a.isLt
  have hb : (b.toNat : Int) < 2 ^ w := by exact_mod_cast b.isLt
  have hc := c.toNat_le
  cases hborrow : f.c with
  | true =>
    have hless := h.carry.mp hborrow
    rw [← Int.add_emod_right, Int.emod_eq_of_lt (by omega) (by omega)] at hvalue
    simp only [Bool.toNat_true]
    omega
  | false =>
    have henough := mt h.carry.mpr (ne_true_of_eq_false hborrow)
    rw [Int.emod_eq_of_lt (by omega) (by omega)] at hvalue
    simp only [Bool.toNat_false]
    omega

/-! ## From the low part to the high part -/

section Parts

variable {v w : Nat} {al bl rl : BitVec v} {ah bh rh : BitVec w} {c : Bool} {fl fh : CCR}

theorem two_pow_add (w v : Nat) : (2 : Int) ^ (w + v) = 2 ^ w * 2 ^ v := pow_add 2 w v

theorem two_pow_add_sub_one (hw : 0 < w) (v : Nat) : (2 : Int) ^ (w + v - 1) = 2 ^ v * 2 ^ (w - 1) := by
  rw [← pow_add]
  congr 1
  omega

theorem sign_append (hw : 0 < w) : (rh ++ rl).toInt < 0 ↔ rh.toInt < 0 := by
  have hrl : (rl.toNat : Int) < 2 ^ v := by exact_mod_cast rl.isLt
  have hscaled := scaled_lt_iff (x := rh.toInt) (y := 0) (Int.natCast_nonneg rl.toNat) hrl
  rwa [toInt_append_eq hw, ← Int.mul_zero (2 ^ v)]

/-- A sum of the high parts with the carry of the low parts' sum is the sum of the whole, with its flags (R211). -/
theorem SumOf.append (hw : 0 < w) (hlow : SumOf al bl c rl fl) (hhigh : SumOf ah bh fl.c rh fh) :
    SumOf (ah ++ al) (bh ++ bl) c (rh ++ rl) fh := by
  have hrl : (rl.toNat : Int) < 2 ^ v := by exact_mod_cast rl.isLt
  have hpos := Int.natCast_nonneg rl.toNat
  have hexact := hlow.exact
  have hunsigned : ((ah ++ al).toNat : Int) + (bh ++ bl).toNat + c.toNat =
      2 ^ v * ((ah.toNat : Int) + bh.toNat + fl.c.toNat) + rl.toNat := by
    rw [toNat_append_eq, toNat_append_eq]
    push_cast
    linarith
  have hsigned : (ah ++ al).toInt + (bh ++ bl).toInt + c.toNat =
      2 ^ v * (ah.toInt + bh.toInt + fl.c.toNat) + rl.toNat := by
    rw [toInt_append_eq hw, toInt_append_eq hw]
    linarith
  refine ⟨?value, ?sign, ?overflow, ?carry⟩
  case value =>
    have hvalue : (rh.toNat : Int) = ((ah.toNat : Int) + bh.toNat + fl.c.toNat) % 2 ^ w := by exact_mod_cast hhigh.value
    have hresult : ((rh ++ rl).toNat : Int) =
        (((ah ++ al).toNat : Int) + (bh ++ bl).toNat + c.toNat) % 2 ^ (w + v) := by
      rw [hunsigned, two_pow_add, scaled_emod hpos hrl (by positivity), ← hvalue, toNat_append_eq]
      push_cast
      rfl
    exact_mod_cast hresult
  case sign => rw [hhigh.sign, sign_append hw]
  case overflow =>
    rw [hhigh.overflow, hsigned, two_pow_add_sub_one hw, ← Int.mul_neg, scaled_lt_iff hpos hrl, le_scaled_iff hpos hrl]
  case carry =>
    have hcarry : (2 : Int) ^ (w + v) ≤ ((ah ++ al).toNat : Int) + (bh ++ bl).toNat + c.toNat ↔
        (2 : Int) ^ w ≤ (ah.toNat : Int) + bh.toNat + fl.c.toNat := by
      rw [hunsigned, two_pow_add, Int.mul_comm, le_scaled_iff hpos hrl]
    rw [hhigh.carry]
    exact_mod_cast hcarry.symm

/-- A difference of the high parts with the borrow of the low parts' difference is the difference of the whole, with its
flags (R210, R211). -/
theorem DifferenceOf.append (hw : 0 < w) (hlow : DifferenceOf al bl c rl fl) (hhigh : DifferenceOf ah bh fl.c rh fh) :
    DifferenceOf (ah ++ al) (bh ++ bl) c (rh ++ rl) fh := by
  have hrl : (rl.toNat : Int) < 2 ^ v := by exact_mod_cast rl.isLt
  have hpos := Int.natCast_nonneg rl.toNat
  have hexact := hlow.exact
  have hunsigned : ((ah ++ al).toNat : Int) - (bh ++ bl).toNat - c.toNat =
      2 ^ v * ((ah.toNat : Int) - bh.toNat - fl.c.toNat) + rl.toNat := by
    rw [toNat_append_eq, toNat_append_eq]
    push_cast
    linarith
  have hsigned : (ah ++ al).toInt - (bh ++ bl).toInt - c.toNat =
      2 ^ v * (ah.toInt - bh.toInt - fl.c.toNat) + rl.toNat := by
    rw [toInt_append_eq hw, toInt_append_eq hw]
    linarith
  refine ⟨?value, ?sign, ?overflow, ?carry⟩
  case value =>
    rw [hunsigned, two_pow_add, scaled_emod hpos hrl (by positivity), ← hhigh.value, toNat_append_eq]
    push_cast
    rfl
  case sign => rw [hhigh.sign, sign_append hw]
  case overflow =>
    rw [hhigh.overflow, hsigned, two_pow_add_sub_one hw, ← Int.mul_neg, scaled_lt_iff hpos hrl, le_scaled_iff hpos hrl]
  case carry =>
    have hborrow := scaled_lt_iff (x := (ah.toNat : Int) - bh.toNat - fl.c.toNat) (y := 0) hpos hrl
    rw [← hunsigned, Int.mul_zero] at hborrow
    rw [hhigh.carry]
    omega

end Parts

/-! ## The Zero Flag and the order (R258) -/

/-- Without a borrow in, the difference is zero exactly where the operands are equal. -/
theorem DifferenceOf.eq_zero_iff {w : Nat} {a b r : BitVec w} {f : CCR} (h : DifferenceOf a b false r f) :
    r = 0 ↔ a = b := by
  have hexact := h.exact
  have ha : (a.toNat : Int) < 2 ^ w := by exact_mod_cast a.isLt
  have hb : (b.toNat : Int) < 2 ^ w := by exact_mod_cast b.isLt
  have hr : (r.toNat : Int) < 2 ^ w := by exact_mod_cast r.isLt
  have hzero : r = 0 ↔ r.toNat = 0 := by simp [BitVec.toNat_eq]
  rw [hzero, ← BitVec.toNat_inj]
  cases hborrow : f.c <;> simp only [hborrow, Bool.toNat_true, Bool.toNat_false] at hexact <;> omega

theorem orderOf_of_differenceOf {w : Nat} (hw : 0 < w) {a b r : BitVec w} {f : CCR} (h : DifferenceOf a b false r f)
    (hz : f.z = true ↔ r = 0) : OrderOf a b f where
  zero := hz.trans h.eq_zero_iff
  carry := by simpa using h.carry
  signed := by
    have hexact := h.exact
    obtain ⟨p, hp, hpInt⟩ := exists_half_range hw
    have hpow : (2 : Int) ^ w = 2 * p := by exact_mod_cast hp
    obtain ⟨-, hia⟩ := msb_and_toInt hp a
    obtain ⟨-, hib⟩ := msb_and_toInt hp b
    obtain ⟨-, hir⟩ := msb_and_toInt hp r
    rw [ne_eq, Bool.eq_iff_iff, h.sign, h.overflow, hpInt]
    cases hborrow : f.c <;> simp only [hborrow, hpow, Bool.toNat_true, Bool.toNat_false] at hexact ⊢ <;> omega

/-! ## CMPL then CPCH (R210) -/

theorem exec_cmpl_cpch (rs : Reg) (lo hi : Byte) (s : State) : ∃ t u r,
    exec (.cmpl rs lo) s = .next t ∧ exec (.cpch rs hi) t = .next u ∧
    DifferenceOf (s.reg rs) (hi ++ lo : Word) false r u.ccr ∧ (u.ccr.z = true ↔ r = 0) ∧
    (∀ q, u.reg q = s.reg q) ∧ u.pc = s.pc + 4 := by
  have hlow := differenceOf_subFlags_false (by decide) (lowByte (s.reg rs)) lo
  have hhigh := differenceOf_subFlags (by decide) (highByte (s.reg rs)) hi
    (subFlags (lowByte (s.reg rs)) lo (lowByte (s.reg rs) - lo)).c
  have hboth := (hlow.append (by decide) hhigh).of_carryZero
    (subFlags (lowByte (s.reg rs)) lo (lowByte (s.reg rs) - lo))
  have hword : (highByte (s.reg rs) ++ lowByte (s.reg rs) : Word) = s.reg rs := joinBytes_highByte_lowByte _
  rw [hword] at hboth
  refine ⟨_, _, _, exec_cmpl rs lo s, exec_cpch rs hi _, hboth, ?zero, fun _ => rfl, ?pc⟩
  case zero =>
    rw [append_eq_zero_iff]
    exact (carryZero_z _ _).trans (and_congr (subFlags_z _ _ _) (subFlags_z _ _ _))
  case pc =>
    change s.pc + 2 + 2 = s.pc + 4
    rw [BitVec.add_assoc]
    rfl

/-- Settles O14: the two bytes' differences are the parts of the word's. -/
theorem cmplThenCpchCompareSixteenBits : Obligations.CmplThenCpchCompareSixteenBits := by
  intro rs lo hi s
  obtain ⟨t, u, r, hcmpl, hcpch, hdifference, hzero, hregs, hpc⟩ := exec_cmpl_cpch rs lo hi s
  exact ⟨t, u, r, hcmpl, hcpch, hdifference, hzero.trans hdifference.eq_zero_iff, hregs, hpc⟩

/-! ## ADD then ADC, SUB then SBC (R211) -/

/-- Settles O15: the two words' sums, and differences, are the parts of the 32-bit ones. -/
theorem addAdcAndSubSbcWorkOnThirtyTwoBits : Obligations.AddAdcAndSubSbcWorkOnThirtyTwoBits := by
  intro s
  refine ⟨⟨_, _, exec_add .r6 .r4 .r2 s, exec_adc .r7 .r5 .r3 _, ?sum, ?sumZero⟩,
    ⟨_, _, exec_sub .r6 .r4 .r2 s, exec_sbc .r7 .r5 .r3 _, ?difference, ?differenceZero⟩⟩
  case sum =>
    exact ((sumOf_addFlags_false (by decide) _ _).append (by decide) (sumOf_addFlags (by decide) _ _ _)).of_carryZero _
  case sumZero => exact (carryZero_z _ _).trans (and_congr (addFlags_z _ _ _) (addFlags_z _ _ _))
  case difference =>
    exact ((differenceOf_subFlags_false (by decide) _ _).append (by decide)
      (differenceOf_subFlags (by decide) _ _ _)).of_carryZero _
  case differenceZero => exact (carryZero_z _ _).trans (and_congr (subFlags_z _ _ _) (subFlags_z _ _ _))

/-! ## Shifts by one place as numbers (R282) -/

theorem toNat_shiftLeftFill_one (v : Word) (fill : Bool) :
    (shiftLeftFill v 1 fill).toNat = (2 * v.toNat + fill.toNat) % 2 ^ 16 := by
  have hconcat : shiftLeftFill v 1 fill = (v.concat fill).setWidth 16 := by
    apply BitVec.eq_of_getLsbD_eq
    intro i hi
    rw [getLsbD_shiftLeftFill v 1 fill hi, BitVec.getLsbD_setWidth, BitVec.getLsbD_concat, decide_eq_true hi, Bool.true_and]
    exact if_congr Nat.lt_one_iff rfl rfl
  rw [hconcat, BitVec.toNat_setWidth, BitVec.toNat_concat, Nat.mul_comm]

theorem toNat_shiftRightFill_one (v : Word) (fill : Bool) :
    (shiftRightFill v 1 fill).toNat = 2 ^ 15 * fill.toNat + v.toNat / 2 := by
  have happend : shiftRightFill v 1 fill = (BitVec.ofBool fill ++ v.extractLsb' 1 15 : Word) := by
    apply BitVec.eq_of_getLsbD_eq
    intro i hi
    rw [getLsbD_shiftRightFill v 1 fill hi, BitVec.getLsbD_append, BitVec.getLsbD_extractLsb', Nat.add_comm 1 i]
    by_cases hlow : i < 15
    · have hinside : i + 1 < 16 := by omega
      simp [hlow, hinside]
    · have htop : i - 15 = 0 := by omega
      have houtside : ¬ i + 1 < 16 := by omega
      simp [hlow, houtside, htop]
  have hlt := v.isLt
  rw [happend, toNat_append_eq, BitVec.toNat_ofBool, BitVec.extractLsb'_toNat, Nat.shiftRight_eq_div_pow, Nat.pow_one,
    Nat.mod_eq_of_lt (by omega)]

/-- The top bit and the lowest bit of a word as numbers. -/
theorem toNat_getLsbD_15 (v : Word) : (v.getLsbD 15).toNat = v.toNat / 2 ^ 15 := by
  have hlt := v.isLt
  rw [BitVec.getLsbD, Nat.toNat_testBit, Nat.mod_eq_of_lt (by omega)]

theorem toNat_getLsbD_0 (v : Word) : (v.getLsbD 0).toNat = v.toNat % 2 := by
  rw [BitVec.getLsbD, Nat.toNat_testBit, Nat.pow_zero, Nat.div_one]

/-- Two words shifted left by one place, the top bit of the low one filling the high one. -/
theorem toNat_shiftLeft_pair (hi lo : Word) :
    (shiftLeftFill hi 1 (lo.getLsbD 15) ++ shiftLeftFill lo 1 false).toNat = 2 * (hi ++ lo).toNat % 2 ^ 32 := by
  have hlo := lo.isLt
  rw [toNat_append_eq, toNat_append_eq, toNat_shiftLeftFill_one, toNat_shiftLeftFill_one, toNat_getLsbD_15,
    Bool.toNat_false]
  omega

/-- Two words shifted right by one place, the lowest bit of the high one filling the low one. -/
theorem toNat_shiftRight_pair (hi lo : Word) :
    (shiftRightFill hi 1 false ++ shiftRightFill lo 1 (hi.getLsbD 0)).toNat = (hi ++ lo).toNat / 2 := by
  rw [toNat_append_eq, toNat_append_eq, toNat_shiftRightFill_one, toNat_shiftRightFill_one, toNat_getLsbD_0,
    Bool.toNat_false]
  omega

theorem shiftLeft_one (fill : Bool) {rd : Reg} (hrd : rd ≠ .r0) (s : State) :
    (shiftLeft fill rd 1 s).reg rd = shiftLeftFill (s.reg rd) 1 fill ∧
      (∀ q, q ≠ rd → (shiftLeft fill rd 1 s).reg q = s.reg q) ∧ (shiftLeft fill rd 1 s).ccr.c = (s.reg rd).getLsbD 15 :=
  ⟨by simp [shiftLeft, reg_writeResult, hrd], fun q hq => by simp [shiftLeft, reg_writeResult, hq], rfl⟩

theorem shiftRight_one (fill : Bool) {rd : Reg} (hrd : rd ≠ .r0) (s : State) :
    (shiftRight fill rd 1 s).reg rd = shiftRightFill (s.reg rd) 1 fill ∧
      (∀ q, q ≠ rd → (shiftRight fill rd 1 s).reg q = s.reg q) ∧ (shiftRight fill rd 1 s).ccr.c = (s.reg rd).getLsbD 0 :=
  ⟨by simp [shiftRight, reg_writeResult, hrd], fun q hq => by simp [shiftRight, reg_writeResult, hq], rfl⟩

/-- Settles O25: the bit that leaves one word is the fill of the other. -/
theorem shiftsByOneChainThroughTheCarry : Obligations.ShiftsByOneChainThroughTheCarry := by
  intro lo hi s hlo hhi hne
  refine ⟨⟨_, _, exec_lslImm lo 1 s, exec_cslImm hi 1 _, ?left⟩, ⟨_, _, exec_lsrImm hi 1 s, exec_csrImm lo 1 _, ?right⟩⟩
  case left =>
    obtain ⟨hfirst, hother, hcarry⟩ := shiftLeft_one false hlo s
    obtain ⟨hsecond, hkept, hcarry'⟩ := shiftLeft_one (shiftLeft false lo 1 s).ccr.c hhi (shiftLeft false lo 1 s)
    rw [hcarry, hother hi hne.symm] at hsecond
    rw [hother hi hne.symm] at hcarry'
    refine ⟨?_, hcarry'⟩
    rw [← toNat_shiftLeft_pair, ← hsecond, ← hfirst, ← hkept lo hne]
    rfl
  case right =>
    obtain ⟨hfirst, hother, hcarry⟩ := shiftRight_one false hhi s
    obtain ⟨hsecond, hkept, hcarry'⟩ := shiftRight_one (shiftRight false hi 1 s).ccr.c hlo (shiftRight false hi 1 s)
    rw [hcarry, hother lo hne] at hsecond
    rw [hother lo hne] at hcarry'
    refine ⟨?_, hcarry'⟩
    rw [← toNat_shiftRight_pair, ← hsecond, ← hfirst, ← hkept hi hne.symm]
    rfl

end Sys2Proof.Machine
end

section
/-! The branches, the jump and RTS: the targets as arithmetic, the flag patterns of the table of branches, and the order
that a compare leaves in the flags (44_branch.md, 47_special.md). -/

namespace Sys2Proof.Machine

/-! ## Targets (R255, R273) -/

/-- `pc + 2` and twice a signed offset, as numbers modulo 2^16 (D16). -/
theorem relativeTarget_eq {n : Nat} (pc : Word) (rel : BitVec n) :
    pc + (2 : Word) + (rel.signExtend 16 <<< 1 : Word) = BitVec.ofInt 16 (pc.toNat + 2 + 2 * rel.toInt) := by
  have hdouble : rel.signExtend 16 <<< 1 = BitVec.ofInt 16 (2 * rel.toInt) := by
    rw [BitVec.ofInt_mul, BitVec.shiftLeft_eq_mul_twoPow, BitVec.mul_comm]
    rfl
  have hnext : pc + 2 = BitVec.ofInt 16 (pc.toNat + 2) := by
    rw [BitVec.ofInt_add, BitVec.ofInt_natCast, BitVec.ofNat_toNat, BitVec.setWidth_eq]
    rfl
  rw [hdouble, hnext, ← BitVec.ofInt_add]

theorem target9_eq (pc : Word) (rel : BitVec 9) : target9 pc rel = BitVec.ofInt 16 (pc.toNat + 2 + 2 * rel.toInt) :=
  relativeTarget_eq pc rel

theorem target10_eq (pc : Word) (rel : BitVec 10) : target10 pc rel = BitVec.ofInt 16 (pc.toNat + 2 + 2 * rel.toInt) :=
  relativeTarget_eq pc rel

theorem next_eq (pc : Word) : pc + 2 = BitVec.ofInt 16 (pc.toNat + 2 + 0) := by
  rw [Int.add_zero, BitVec.ofInt_add, BitVec.ofInt_natCast, BitVec.ofNat_toNat, BitVec.setWidth_eq]
  rfl

/-! ## The table of R256 -/

/-- What the table says of one of its rows. -/
def BranchRow (e : Nat × (BitVec 9 → Instr) × List Nat) : Prop :=
  ∀ (rel : BitVec 9) (s : State),
    isWordOf (BitVec.ofNat 16 (0x2000 + 0x200 * e.1) ||| put 0 rel) (e.2.1 rel) ∧
    exec (e.2.1 rel) s = .next { s with
      pc := BitVec.ofInt 16 (s.pc.toNat + 2 + if s.ccr.bits.toNat ∈ e.2.2 then 2 * rel.toInt else 0) }

/-- A row of the table is met by an instruction with its word that branches on a condition true in its patterns. -/
theorem branchRow_of_condition {code : Nat} {instr : BitVec 9 → Instr} {patterns : List Nat}
    (hword : ∀ rel, isWordOf (BitVec.ofNat 16 (0x2000 + 0x200 * code) ||| put 0 rel) (instr rel)) (taken : CCR → Bool)
    (hexec : ∀ rel s, exec (instr rel) s = .next (branchIf (taken s.ccr) rel s))
    (htaken : ∀ n z v c, taken ⟨n, z, v, c⟩ = decide ((CCR.mk n z v c).bits.toNat ∈ patterns)) :
    BranchRow (code, instr, patterns) := by
  intro rel s
  refine ⟨hword rel, ?_⟩
  rw [hexec, branchIf, htaken]
  by_cases hpattern : s.ccr.bits.toNat ∈ patterns
  · rw [if_pos (decide_eq_true hpattern), if_pos hpattern, target9_eq]
    rfl
  · rw [if_neg (by simpa using hpattern), if_neg hpattern, next_eq]
    rfl

/-- Settles O30: the fourteen rows, each with the condition its branch tests. -/
theorem conditionalBranchesFollowTheTable : Obligations.ConditionalBranchesFollowTheTable := by
  have hrows : ∀ e ∈ branchTable, BranchRow e := by
    simp only [branchTable, List.forall_mem_cons]
    exact ⟨branchRow_of_condition isWordOf_bcc (fun f => !f.c) (fun _ _ => rfl) (by decide),
      branchRow_of_condition isWordOf_bcs (fun f => f.c) (fun _ _ => rfl) (by decide),
      branchRow_of_condition isWordOf_bne (fun f => !f.z) (fun _ _ => rfl) (by decide),
      branchRow_of_condition isWordOf_beq (fun f => f.z) (fun _ _ => rfl) (by decide),
      branchRow_of_condition isWordOf_bpl (fun f => !f.n) (fun _ _ => rfl) (by decide),
      branchRow_of_condition isWordOf_bmi (fun f => f.n) (fun _ _ => rfl) (by decide),
      branchRow_of_condition isWordOf_bvc (fun f => !f.v) (fun _ _ => rfl) (by decide),
      branchRow_of_condition isWordOf_bvs (fun f => f.v) (fun _ _ => rfl) (by decide),
      branchRow_of_condition isWordOf_bhi (fun f => !(f.c || f.z)) (fun _ _ => rfl) (by decide),
      branchRow_of_condition isWordOf_bls (fun f => f.c || f.z) (fun _ _ => rfl) (by decide),
      branchRow_of_condition isWordOf_bge (fun f => !(f.n ^^ f.v)) (fun _ _ => rfl) (by decide),
      branchRow_of_condition isWordOf_blt (fun f => f.n ^^ f.v) (fun _ _ => rfl) (by decide),
      branchRow_of_condition isWordOf_bgt (fun f => !(f.z || (f.n ^^ f.v))) (fun _ _ => rfl) (by decide),
      branchRow_of_condition isWordOf_ble (fun f => f.z || (f.n ^^ f.v)) (fun _ _ => rfl) (by decide),
      List.forall_mem_nil _⟩
  exact hrows

/-! ## BRA, JAL and RTS (R272, R273, R336) -/

theorem exec_bra (rel : BitVec 10) (s : State) : exec (.bra rel) s = .next (s.setPc (target10 s.pc rel)) := rfl

theorem exec_jal (rd : Reg) (s : State) : exec (.jal rd) s = .next ((s.setReg rd (s.pc + 2)).setPc (s.reg rd)) := rfl

/-- What a register reads after a write to it, R0 included. -/
theorem reg_setReg_written (s : State) (rd : Reg) (v : Word) : (s.setReg rd v).reg rd = written rd v := by
  by_cases hrd : rd = .r0 <;> simp [written, hrd]

/-- Settles O31: both set pc and nothing else, but for the return address that JAL leaves in RD. -/
theorem braAndJalSetTheProgramCounter : Obligations.BraAndJalSetTheProgramCounter := by
  refine ⟨fun rel s => ⟨isWordOf_bra rel, ?bra⟩, fun rd s =>
    ⟨isWordOf_jal rd, _, exec_jal rd s, rfl, ?link, ?others, rfl, rfl, fun _ => rfl⟩⟩
  case bra =>
    rw [exec_bra, target10_eq]
    rfl
  case link => rw [reg_setPc, reg_setReg_written]
  case others =>
    intro q hq
    rw [reg_setPc, reg_setReg_other s rd q _ hq]

/-- Settles O43: RTS is `returnToScheduler`. -/
theorem rtsEndsTheThread : Obligations.RtsEndsTheThread :=
  ⟨isWordOf_rts, fun s => ⟨returnToScheduler s, rfl, rfl, fun _ => rfl, rfl, rfl, fun _ => rfl⟩⟩

/-! ## Branches after a compare (R258) -/

/-- A compare of the high parts after one of the low parts orders the whole numbers. -/
theorem orderOf_append {v w : Nat} (hv : 0 < v) (hw : 0 < w) (al bl : BitVec v) (ah bh : BitVec w) :
    OrderOf (ah ++ al) (bh ++ bl) (carryZero (subFlags al bl (al - bl))
      (subFlags ah bh (ah - bh - carryIn (subFlags al bl (al - bl)).c))) := by
  have hdifference := ((differenceOf_subFlags_false hv al bl).append hw (differenceOf_subFlags hw ah bh _)).of_carryZero
    (subFlags al bl (al - bl))
  refine orderOf_of_differenceOf (Nat.add_pos_left hw v) hdifference ?_
  rw [append_eq_zero_iff, carryZero_z, subFlags_z, subFlags_z]

theorem orderOf_subFlags {w : Nat} (hw : 0 < w) (a b : BitVec w) : OrderOf a b (subFlags a b (a - b)) :=
  orderOf_of_differenceOf hw (differenceOf_subFlags_false hw a b) (subFlags_z _ _ _)

theorem exec_cmp_cpc (l1 h1 l2 h2 : Reg) (s : State) : ∃ t u,
    exec (.sub .r0 l1 l2) s = .next t ∧ exec (.sbc .r0 h1 h2) t = .next u ∧
    OrderOf (s.reg h1 ++ s.reg l1) (s.reg h2 ++ s.reg l2) u.ccr := by
  refine ⟨_, _, exec_sub .r0 l1 l2 s, exec_sbc .r0 h1 h2 _, ?_⟩
  exact orderOf_append (by decide) (by decide) (s.reg l1) (s.reg l2) (s.reg h1) (s.reg h2)

/-- A branch whose condition is a proposition. -/
theorem branchIf_of_iff {taken : Bool} {p : Prop} [Decidable p] (h : taken = true ↔ p) (rel : BitVec 9) (s : State) :
    branchIf taken rel s = s.setPc (if p then target9 s.pc rel else s.pc + 2) := by
  rw [branchIf]
  exact congrArg _ (if_congr h rfl rfl)

section Order

variable {w : Nat} {a b : BitVec w} {f : CCR} (h : OrderOf a b f)
include h

theorem OrderOf.not_zero : (!f.z) = true ↔ a ≠ b := by
  rw [Bool.not_eq_true', ← Bool.not_eq_true, h.zero]

theorem OrderOf.not_carry : (!f.c) = true ↔ b.toNat ≤ a.toNat := by
  rw [Bool.not_eq_true', ← Bool.not_eq_true, h.carry, Nat.not_lt]

theorem OrderOf.carry_or_zero : (f.c || f.z) = true ↔ a.toNat ≤ b.toNat := by
  rw [Bool.or_eq_true, h.carry, h.zero, ← BitVec.toNat_inj, ← Nat.le_iff_lt_or_eq]

theorem OrderOf.not_carry_or_zero : (!(f.c || f.z)) = true ↔ b.toNat < a.toNat := by
  rw [Bool.not_eq_true', ← Bool.not_eq_true, h.carry_or_zero, Nat.not_le]

theorem OrderOf.less : (f.n ^^ f.v) = true ↔ a.toInt < b.toInt := by
  rw [Bool.xor_iff_ne, h.signed]

theorem OrderOf.not_less : (!(f.n ^^ f.v)) = true ↔ b.toInt ≤ a.toInt := by
  rw [Bool.not_eq_true', ← Bool.not_eq_true, h.less, Int.not_lt]

theorem OrderOf.zero_or_less : (f.z || (f.n ^^ f.v)) = true ↔ a.toInt ≤ b.toInt := by
  rw [Bool.or_eq_true, h.less, h.zero, ← BitVec.toInt_inj, or_comm, ← Int.le_iff_lt_or_eq]

theorem OrderOf.not_zero_or_less : (!(f.z || (f.n ^^ f.v))) = true ↔ b.toInt < a.toInt := by
  rw [Bool.not_eq_true', ← Bool.not_eq_true, h.zero_or_less, Int.not_le]

end Order

/-- Settles O16: the four compares order their operands, and each branch tests the flags of its relation. -/
theorem branchesAfterACompareFollowTheRelation : Obligations.BranchesAfterACompareFollowTheRelation := by
  refine ⟨fun rs1 rs2 s => ⟨_, exec_sub .r0 rs1 rs2 s, orderOf_subFlags (by decide) _ _⟩,
    fun rs k s => ⟨_, exec_cmpl rs k s, orderOf_subFlags (by decide) _ _⟩, fun rs lo hi s => ?words, exec_cmp_cpc,
    fun w a b rel s h => ?branches⟩
  case words =>
    obtain ⟨t, u, r, hcmpl, hcpch, hdifference, hzero, -, -⟩ := exec_cmpl_cpch rs lo hi s
    exact ⟨t, u, hcmpl, hcpch, orderOf_of_differenceOf (by decide) hdifference hzero⟩
  case branches =>
    exact ⟨congrArg _ (branchIf_of_iff h.zero rel s), congrArg _ (branchIf_of_iff h.not_zero rel s),
      congrArg _ (branchIf_of_iff h.not_carry_or_zero rel s), congrArg _ (branchIf_of_iff h.not_carry rel s),
      congrArg _ (branchIf_of_iff h.carry rel s), congrArg _ (branchIf_of_iff h.carry_or_zero rel s),
      congrArg _ (branchIf_of_iff h.not_zero_or_less rel s), congrArg _ (branchIf_of_iff h.not_less rel s),
      congrArg _ (branchIf_of_iff h.less rel s), congrArg _ (branchIf_of_iff h.zero_or_less rel s)⟩

end Sys2Proof.Machine
end
